-- ==== Sys2Proof/Word.lean ====
section
/-! DEFINITION. The plain types of the VZ2240: bytes, words, the four lanes of a beat and the thirty-two bytes of a line.

A lane or a staged byte that holds nothing is `none`: the spec gives such a byte no value (R23, R87). -/

namespace Sys2Proof

/-- One byte. -/
abbrev Byte := BitVec 8

/-- One word of 4 bytes (00_scope.md, Table I-5). -/
abbrev Word := BitVec 32

/-- The four byte lanes of a beat: lane k is `some` exactly when byte strobe k is set (R104). -/
abbrev Lanes := Vector (Option Byte) 4

/-- The 32 bytes of a slot: byte i is `some` exactly when its valid flag is set (R23). -/
abbrev Cells := Vector (Option Byte) 32

/-- A setup-link channel, 0 to 3 (R148). -/
abbrev Channel := Fin 4

/-- A tag, 0 to 15, echoed in the response (R148). -/
abbrev Tag := Fin 16

/-- A window number, 0 to 15 (R1). -/
abbrev WindowNo := Fin 16

/-- A group's number within its window, 0 to 255, wrapping (R14). -/
abbrev Epoch := BitVec 8

/-- A batch's number across the device, 1 to 65535 (R49). -/
abbrev Sequence := BitVec 16

/-- The event set in the bit order of Table 8-7: bits 0 to 10. -/
abbrev EventSet := BitVec 11

end Sys2Proof
end

