-- ==== Sys2Proof/Syntax.lean ====
section
/-! DEFINITION. The commands of the part: one constructor for each row of spec/opcode_table.json, in the table's order.

A command is an event at one of the part's ports, the completion of a timer, or a setup-link frame. The operands are what
the port carries with the event. Table I-2 names the host-port signals; R135 gives the frame. -/

namespace Sys2Proof

/-- What a request frame carries after its channel and tag (R135): the argument of a short frame, or the payload words of a
long frame. -/
inductive FrameBody where
  | short (argument : Byte)
  | long (payload : List Word)
deriving DecidableEq, Repr

/-- The two faults of form that R140 answers with NAK LENGTH: the reserved bit set, or a long frame whose word count is 0 or
greater than 64. -/
inductive FormFault where
  | reservedBit
  | wordCount
deriving DecidableEq, Repr

inductive Instr where
  /-- HARDWARE_RESET (R102): RESETN falls. -/
  | hardwareReset
  /-- RESET_RELEASE (R170): RESETN rises. -/
  | resetRelease
  /-- QUIET_START (R91): QUIET rises. -/
  | quietStart
  /-- QUIET_END (R90): QUIET falls. -/
  | quietEnd
  /-- STARVATION_TIMER_EXPIRY (R97). -/
  | starvationTimerExpiry
  /-- STALL_LIMIT_EXPIRY (R111). -/
  | stallLimitExpiry
  /-- HOST_TRANSACTION_REQUEST (R103): HP_REQ with HP_ADR[23:2], HP_WR and HP_CNT (beat count minus one). -/
  | hostTransactionRequest (adr : BitVec 22) (wr : Bool) (cnt : BitVec 4)
  /-- HOST_WRITE_BEAT (R106): HP_BV with HP_WD and HP_BE. -/
  | hostWriteBeat (wd : Word) (be : BitVec 4)
  /-- HOST_READ_BEAT (R113). -/
  | hostReadBeat
  /-- PASS_WRITE_ISSUE (R107). -/
  | passWriteIssue
  /-- HELD_BEAT_RETRY (R46). -/
  | heldBeatRetry
  /-- HELD_BEAT_RELEASE (R110). -/
  | heldBeatRelease
  /-- MEMORY_BEAT_ANSWER (R114): MP_BRDY with MP_ERR and MP_RD. -/
  | memoryBeatAnswer (err : Bool) (rd : Word)
  /-- DRAIN_START (R85). -/
  | drainStart
  /-- TRANSFER_PERIOD_START (R134): LSEL falls. -/
  | transferPeriodStart
  /-- TRANSFER_PERIOD_END (R142): LSEL rises. -/
  | transferPeriodEnd
  /-- HEADER_CHECK_FAILURE (R139): a complete header fails its CRC-8. None of its bytes is used. -/
  | headerCheckFailure
  /-- FRAME_FORM_REFUSAL (R140): a header with a good check and a fault of form, with its channel and tag. -/
  | frameFormRefusal (ch : Channel) (tag : Tag) (fault : FormFault)
  /-- PAYLOAD_CHECK_FAILURE (R141): a long frame whose CRC-16 fails, with the channel and tag of its header. -/
  | payloadCheckFailure (ch : Channel) (tag : Tag)
  /-- LINK_OVERRUN (R143): a complete request finds all eight response places taken. -/
  | linkOverrun
  /-- UNKNOWN_KIND (R154): a request frame whose kind is not in Table 8-1. -/
  | unknownKind (kind : Byte) (ch : Channel) (tag : Tag) (body : FrameBody)
  /-- RESPONSE_SENT (R146): the last byte of the head response frame is sent. -/
  | responseSent
  /-- IDENT (R158). -/
  | ident (ch : Channel) (tag : Tag) (body : FrameBody)
  /-- STATUS (R159). -/
  | status (ch : Channel) (tag : Tag) (body : FrameBody)
  /-- CONFIG_GET (R161). -/
  | configGet (ch : Channel) (tag : Tag) (body : FrameBody)
  /-- CONFIG_SET (R162). -/
  | configSet (ch : Channel) (tag : Tag) (body : FrameBody)
  /-- WIPE (R165). -/
  | wipe (ch : Channel) (tag : Tag) (body : FrameBody)
  /-- WIPE_EFFECT (R166). -/
  | wipeEffect
  /-- SET_LIMIT (R149). -/
  | setLimit (ch : Channel) (tag : Tag) (body : FrameBody)
  /-- RESYNC (R150). -/
  | resync (ch : Channel) (tag : Tag) (body : FrameBody)
  /-- WIN_DEFINE (R12). -/
  | winDefine (ch : Channel) (tag : Tag) (body : FrameBody)
  /-- WIN_START (R13). -/
  | winStart (ch : Channel) (tag : Tag) (body : FrameBody)
  /-- WIN_RELEASE (R20). -/
  | winRelease (ch : Channel) (tag : Tag) (body : FrameBody)
  /-- WIN_QUERY (R21). -/
  | winQuery (ch : Channel) (tag : Tag) (body : FrameBody)
  /-- WIN_ABORT (R63). -/
  | winAbort (ch : Channel) (tag : Tag) (body : FrameBody)
  /-- CLOSE (R53). -/
  | close (ch : Channel) (tag : Tag) (body : FrameBody)
  /-- CANCEL (R66). -/
  | cancel (ch : Channel) (tag : Tag) (body : FrameBody)
  /-- LOG_READ (R125). -/
  | logRead (ch : Channel) (tag : Tag) (body : FrameBody)
  /-- SIG_RESET (R132). -/
  | sigReset (ch : Channel) (tag : Tag) (body : FrameBody)
  /-- EVENT_ACK (R173). -/
  | eventAck (ch : Channel) (tag : Tag) (body : FrameBody)
  /-- BYTE_RECEIVED (R138): a byte on LDI is complete. -/
  | byteReceived (b : Byte)
  /-- BYTE_SENT (R146): one byte time on LDO. -/
  | byteSent
deriving DecidableEq, Repr

end Sys2Proof
end

