-- ==== Sys2Proof/Decode.lean ====
section
/-! DEFINITION. The words of spec/opcode_table.json. No row of the table gives any bits (every row's "fields" list is empty), so no
word spells a command. The byte encoding of setup-link frames (R135 to R141) is the receive assembler's, in
Machine/Link.lean. -/

namespace Sys2Proof

/-- The command that a word of the opcode table spells: none, since no row gives bits. -/
def decodeTableWord (_nbits _w : Nat) : Option Instr := none

end Sys2Proof
end

