-- ==== Sys2Proof/Config.lean ====
section
/-! DEFINITION. What the part fixes: its capacities (Table 8-9) and the one value the spec leaves unstated. -/

namespace Sys2Proof

/-- Slots of the staging store (R23). -/
def Config.slotCount : Nat := 512

/-- Capacity of the commit queue (R47). -/
def Config.queueCapacity : Nat := 8

/-- Entries of the completion log (R120). -/
def Config.logCapacity : Nat := 32

/-- Places of the response queue (R145). -/
def Config.responsePlaces : Nat := 8

/-- The greatest word address of the address space, FFFFFCH (R104). -/
def Config.lastWordAddress : Nat := 0xFFFFFC

/-- DESIGN CHOICE (log entry 1): the word on HP_RD when a READ beat beyond FFFFFCH is answered ERROR (R104).
The spec says the beat is answered and states no data for it, so the word is a FREE VALUE: it has no body, and nothing can
be proved of it. It is read at the counter `State.freeIndex`, which the read advances. -/
opaque Config.freeReadWord : Nat → Word

end Sys2Proof
end

