-- ==== Sys2Proof/Machine/State.lean ====
section
/-! DEFINITION. The state of the part, block by block (Table I-1), as plain data, and its value after hardware reset.

Counts, sizes and addresses are numbers; the fields the spec treats as bits (a mask, a CRC register, an epoch that wraps) are
bit vectors. A value the spec computes from other state (the free-slot count, ATTN, the grant state, the states of the two
timers) is a function over State, not a second copy. -/

namespace Sys2Proof.Machine

/-! ## Windows (chapter 1) -/

/-- R1: LINEAR with base and length, or RECT with base, pitch, width and height. -/
inductive Geometry where
  | linear (base length : Nat)
  | rect (base pitch width height : Nat)
deriving DecidableEq, Repr

/-- R33: what becomes of a capturing write beat for which no slot is available. -/
inductive FullPolicy where
  | stall
  | pass
  | drop
deriving DecidableEq, Repr

/-- R1: how a batch containing the window is screened against the drain budget. -/
inductive DrainMode where
  | strict
  | span
deriving DecidableEq, Repr

/-- R1: the flags of an open group. -/
structure GroupFlags where
  writeLost : Bool
  writeBypassed : Bool
deriving DecidableEq, Repr

/-- R1, R32: a window's open group. -/
structure OpenGroup where
  lines : Nat
  bytes : Nat
  flags : GroupFlags
deriving DecidableEq, Repr

/-- The fields WIN_DEFINE writes (R12); they hold until the window returns to FREE. -/
structure WindowDef where
  owner : Channel
  geometry : Geometry
  policy : FullPolicy
  mode : DrainMode
  quota : Nat
deriving DecidableEq, Repr

/-- R1 and Table 1-1: a window entry. A field absent in a state is no argument of that state's constructor; the slots-held
count of a FREE or IDLE entry is 0. -/
inductive WindowEntry where
  | free
  | idle (d : WindowDef) (epoch : Epoch)
  | capturing (d : WindowDef) (epoch : Epoch) (slotsHeld : Nat) (group : OpenGroup)
  | retiring (d : WindowDef) (epoch : Epoch) (slotsHeld : Nat) (retireSeq : Sequence)
deriving DecidableEq, Repr

/-! ## The staging store (chapter 2) -/

/-- R24: the status of a slot that is not FREE. -/
inductive SlotStatus where
  | opened
  | queued
  | draining
deriving DecidableEq, Repr

/-- R23 and Table 2-1: a slot that is not FREE. The line address is a multiple of 32; byte i of `cells` stages the byte at
line + i and is present exactly when its valid flag is set. -/
structure Slot where
  status : SlotStatus
  window : WindowNo
  epoch : Epoch
  line : Nat
  cells : Cells
  written : Bool
deriving DecidableEq, Repr

/-! ## Batches and the commit queue (chapter 3) -/

/-- R48: one member of a batch, with the epoch of the group it contributed. -/
structure Member where
  window : WindowNo
  epoch : Epoch
deriving DecidableEq, Repr

/-- R48: the flags of a batch record and of a completion record (Table 8-12). -/
structure BatchFlags where
  spanned : Bool
  forced : Bool
  writeLost : Bool
  writeBypassed : Bool
  memError : Bool
  cut : Bool
deriving DecidableEq, Repr

/-- R48: the drain fields of a DRAINING record. `resume` is the next line in drain order, or `none` past the end; `crc` is the
running signature. -/
structure DrainFields where
  resume : Option (Member × Nat)
  lines : Nat
  bytes : Nat
  crc : BitVec 32
deriving DecidableEq, Repr

/-- R48: QUEUED, or DRAINING with its drain fields. -/
inductive BatchState where
  | queued
  | draining (f : DrainFields)
deriving DecidableEq, Repr

/-- R48 and Table 3-1: a batch record. -/
structure BatchRecord where
  seq : Sequence
  members : List Member
  lines : Nat
  bytes : Nat
  strict : Bool
  retireSet : List WindowNo
  state : BatchState
  flags : BatchFlags
  intervals : BitVec 8
deriving DecidableEq, Repr

/-! ## The drain engine (chapter 4) -/

/-- R79. -/
inductive DrainPhase where
  | closed
  | quiet
  | forced
deriving DecidableEq, Repr

/-- R87: one memory write transaction of a line: its first word's address and its beats. -/
structure DrainRun where
  addr : Nat
  beats : List Lanes
deriving DecidableEq, Repr

/-- R87: the line in progress: whose slot it is, the bytes read when it was begun, and the runs not yet requested. -/
structure LineInProgress where
  member : Member
  line : Nat
  cells : Cells
  runs : List DrainRun
deriving DecidableEq, Repr

/-- R80: the drain activity; WRITING holds the line in progress. -/
inductive DrainActivity where
  | idle
  | waitLog
  | writing (l : LineInProgress)
  | held
deriving DecidableEq, Repr

/-- R96: the starvation timer. `elapsed` counts milliseconds, `micros` the microseconds of TCLK since the last whole one.
Whether it is STOPPED or RUNNING follows from the conditions of R96 (`State.starvationState`). -/
structure StarvationTimer where
  expired : Bool
  elapsed : Nat
  micros : Nat
deriving DecidableEq, Repr

/-- R78 and Table 4-1. -/
structure DrainEngine where
  phase : DrainPhase
  activity : DrainActivity
  remainder : Nat
  frameCount : BitVec 16
  begun : Bool
  timer : StarvationTimer
deriving DecidableEq, Repr

/-! ## The host port interface and the memory port (chapter 5) -/

/-- R103: a host request as the host port carries it; `cnt` is the beat count minus one. -/
structure HostRequest where
  adr : BitVec 22
  wr : Bool
  cnt : BitVec 4
deriving DecidableEq, Repr

/-- R108: why a beat is held. -/
inductive HoldReason where
  | stall
  | retire
deriving DecidableEq, Repr

/-- R108: the held beat, with the stall timer's elapsed time in microseconds. The stall timer is RUNNING exactly while a
beat is held, and STOPPED at 0 otherwise. -/
structure HeldBeat where
  window : WindowNo
  addr : Nat
  be : BitVec 4
  wd : Word
  reason : HoldReason
  elapsed : Nat
deriving DecidableEq, Repr

/-- R107, R116: a PASS write beat that waits at the line interlock. -/
structure PassBeat where
  window : WindowNo
  addr : Nat
  be : BitVec 4
  wd : Word
deriving DecidableEq, Repr

/-- Where the beat at the transaction's next index stands: not yet taken, a write or a read on its way to or at the memory
port (a read with the staged bytes the store gave it, R113), held (R109), or at the line interlock (R116). -/
inductive BeatStatus where
  | waiting
  | writing
  | reading (staged : Lanes)
  | held (h : HeldBeat)
  | atInterlock (p : PassBeat)
deriving DecidableEq, Repr

/-- R103: the host transaction in progress. -/
structure HostTransaction where
  req : HostRequest
  index : Nat
  beat : BeatStatus
deriving DecidableEq, Repr

/-- R104: an answered beat: HP_ERR, and HP_RD for a read beat. -/
structure HostAnswer where
  err : Bool
  data : Option Word
deriving DecidableEq, Repr

/-- The HPI (R103, R108): the transaction in progress, the requests that wait on the host port, oldest first, and the answer
of the last beat taken (none while that beat is unanswered). -/
structure Hpi where
  txn : Option HostTransaction
  waiting : List HostRequest
  answer : Option HostAnswer
deriving DecidableEq, Repr

/-- R114: a memory transaction: a one-beat host read or write, or a drain run with the number of its beats already
answered. -/
inductive PortTxn where
  | hostRead (addr : Nat)
  | hostWrite (addr : Nat) (be : BitVec 4) (wd : Word)
  | drainRun (run : DrainRun) (answered : Nat)
deriving DecidableEq, Repr

/-- R114: the two requesters of the memory port. -/
inductive Requester where
  | host
  | drain
deriving DecidableEq, Repr

/-- The MPA (R114 to R116): the transaction on the port, the waiting request of each requester, the last grant and the line
interlock. -/
structure Mpa where
  port : Option PortTxn
  hostReq : Option PortTxn
  drainReq : Option DrainRun
  lastGrant : Requester
  interlock : Option Nat
deriving DecidableEq, Repr

/-! ## The completion log (chapter 6) -/

/-- R119. -/
inductive LogOutcome where
  | drained
  | cancelled
  | wiped
deriving DecidableEq, Repr

/-- R119 and Table 6-1. -/
structure CompletionRecord where
  seq : Sequence
  mask : BitVec 16
  outcome : LogOutcome
  flags : BatchFlags
  intervals : BitVec 8
  lines : Nat
  frameCount : BitVec 16
  bytes : Nat
  signature : BitVec 32
deriving DecidableEq, Repr

/-- R120: the records, oldest first, and whether an entry is reserved. -/
structure CompletionLog where
  records : List CompletionRecord
  reserved : Bool
deriving DecidableEq, Repr

/-! ## The setup link (chapters 7 and 8) -/

/-- Table 8-4. -/
inductive Reason where
  | check
  | length
  | unknown
  | range
  | align
  | owner
  | state
  | overlap
  | full
  | oversize
  | busy
  | notFound
deriving DecidableEq, Repr

/-- R156: what a response says. -/
inductive Reply where
  | ack
  | nak (r : Reason)
  | data (payload : List Word)
deriving DecidableEq, Repr

/-- A response frame: its channel and tag are those of its request (R148). -/
structure Response where
  ch : Channel
  tag : Tag
  reply : Reply
deriving DecidableEq, Repr

/-- A request frame (R135). -/
structure Frame where
  kind : Byte
  ch : Channel
  tag : Tag
  body : FrameBody
deriving DecidableEq, Repr

/-- R143: what a claimed place waits for: a frame to be executed, or a frame the link refused (R140, R141). -/
inductive Request where
  | frame (f : Frame)
  | refused (ch : Channel) (tag : Tag) (r : Reason)
deriving DecidableEq, Repr

/-- R145: a place of the response queue. -/
inductive Place where
  | awaiting (q : Request)
  | filled (r : Response)
deriving DecidableEq, Repr

/-- What the assembler keeps of the header of a long frame whose payload it is receiving (R138, R140). -/
structure LongHeader where
  kind : Byte
  ch : Channel
  tag : Tag
  reservedBit : Bool
  words : Nat
deriving DecidableEq, Repr

/-- Table 7-1: the receive assembler, with the bytes it has kept. It is IDLE exactly while no transfer period is in
progress. -/
inductive Assembler where
  | idle
  | frameStart
  | header (got : List Byte)
  | payload (h : LongHeader) (got : List Byte)
  | ignore
deriving DecidableEq, Repr

/-- The SLC (chapter 7). `txPos` counts the bytes of the head frame already sent in this transfer period; `txFill` is set by
RESYNC until the period ends (R150); `wipeTaken` says that the command path has taken the WIPE of the first AWAITING place
and waits for the line in progress to end (R165); `ldo` is the byte last driven on LDO, FFH for fill or high. -/
structure Slc where
  assembler : Assembler
  responses : List Place
  txPos : Nat
  txFill : Bool
  limits : Vector Nat 4
  headerErrors : BitVec 8
  wipeTaken : Bool
  ldo : Byte
deriving DecidableEq, Repr

/-- Table 8-8: the configuration record. -/
structure ConfigRecord where
  budget : BitVec 16
  starvationLimit : BitVec 16
  stallLimit : BitVec 16
  forceEnable : Bool
  eventMask : EventSet
deriving DecidableEq, Repr

/-! ## The part -/

/-- The whole state. `resetn`, `quiet` and `lsel` are the levels of the pins RESETN, QUIET and LSEL; `slots` lists the slots that
are not FREE in ascending order of window, epoch and line address; `freeIndex` is the model's own counter (log entry 1);
`pending` is the model's queue of commands that wait, first in, first out. -/
structure State where
  resetn : Bool
  quiet : Bool
  lsel : Bool
  windows : Vector WindowEntry 16
  slots : List Slot
  queue : List BatchRecord
  nextSeq : Sequence
  drain : DrainEngine
  hpi : Hpi
  mpa : Mpa
  chain : BitVec 32
  log : CompletionLog
  slc : Slc
  config : ConfigRecord
  events : EventSet
  freeIndex : Nat
  pending : List Instr
deriving DecidableEq, Repr

/-- No command of the part ends in a fault: the spec gives every command an effect in every state (log entry 3). -/
inductive Fault where
deriving DecidableEq, Repr

inductive Refusal where
  /-- Raised by an arm of `exec` whose command has no meaning yet; no arm raises it now. Safe: the model stops. -/
  | notModelled (mnemonic : String)
deriving DecidableEq, Repr

/-- The part right after hardware reset, RESETN having risen (section 10.1, R170): every block in its reset state and
RESTARTED pending. DESIGN CHOICE (log entry 2): QUIET low and LSEL high, the levels of a consumer that reads and of a link
master that has begun no transfer period. -/
def State.reset : State where
  resetn := true
  quiet := false
  lsel := true
  windows := Vector.replicate 16 .free
  slots := []
  queue := []
  nextSeq := 1
  drain :=
    { phase := .closed, activity := .idle, remainder := 0, frameCount := 0, begun := false,
      timer := { expired := false, elapsed := 0, micros := 0 } }
  hpi := { txn := none, waiting := [], answer := none }
  mpa := { port := none, hostReq := none, drainReq := none, lastGrant := .drain, interlock := none }
  chain := 0
  log := { records := [], reserved := false }
  slc :=
    { assembler := .idle, responses := [], txPos := 0, txFill := false, limits := Vector.replicate 4 16,
      headerErrors := 0, wipeTaken := false, ldo := 0xFF }
  config := { budget := 0x0100, starvationLimit := 0, stallLimit := 0x03E8, forceEnable := false, eventMask := 0x7FF }
  events := 1
  freeIndex := 0
  pending := []

end Sys2Proof.Machine
end

