-- ==== Sys2Proof/Machine/Flags.lean ====
section
/-! DEFINITION. The event set and ATTN (chapter 9), and the flags of groups and batches. -/

namespace Sys2Proof.Machine

/-- Table 9-1: the eleven events. -/
inductive Event where
  | restarted
  | batchDone
  | batchTorn
  | writeLost
  | writeBypassed
  | stallTimeout
  | starved
  | logFull
  | memError
  | linkError
  | linkOverrun
deriving DecidableEq, Repr

/-- Table 8-7: the event's bit. -/
def Event.bit : Event → Nat
  | .restarted => 0
  | .batchDone => 1
  | .batchTorn => 2
  | .writeLost => 3
  | .writeBypassed => 4
  | .stallTimeout => 5
  | .starved => 6
  | .logFull => 7
  | .memError => 8
  | .linkError => 9
  | .linkOverrun => 10

/-- The event set that holds this event alone. -/
def Event.mask (e : Event) : EventSet := 1#11 <<< e.bit

/-- R169: the event is pending in the set. -/
def EventSet.has (set : EventSet) (e : Event) : Bool := set.getLsbD e.bit

/-- R169: a cause sets its event; an event already pending stays pending. -/
def EventSet.with (set : EventSet) (e : Event) : EventSet := set ||| e.mask

/-- R173: the events named in `named` become not pending. -/
def EventSet.without (set named : EventSet) : EventSet := set &&& ~~~named

/-- R145: at least one place of the response queue is FILLED. -/
def anyFilled (places : List Place) : Bool :=
  places.any fun
    | .filled _ => true
    | .awaiting _ => false

/-- R172, R170: the level of ATTN: low while RESETN is low, else high when an unmasked event is pending or a place is FILLED. -/
def State.attn (s : State) : Bool := s.resetn && (s.events &&& s.config.eventMask != 0#11 || anyFilled s.slc.responses)

/-- R33: WRITE_LOST set on a group. -/
def GroupFlags.setLost (f : GroupFlags) : GroupFlags := { f with writeLost := true }

/-- R107: WRITE_BYPASSED set on a group. -/
def GroupFlags.setBypassed (f : GroupFlags) : GroupFlags := { f with writeBypassed := true }

/-- R50: the flags of a batch formed at CLOSE: WRITE_LOST and WRITE_BYPASSED when any member group carries them. -/
def closeFlags (groups : List OpenGroup) : BatchFlags where
  spanned := false
  forced := false
  writeLost := groups.any (·.flags.writeLost)
  writeBypassed := groups.any (·.flags.writeBypassed)
  memError := false
  cut := false

/-- R67: the flags of a CANCELLED record: WRITE_LOST and WRITE_BYPASSED as the batch carried them, the others clear. -/
def BatchFlags.cancelled (f : BatchFlags) : BatchFlags :=
  { f with spanned := false, forced := false, memError := false, cut := false }

/-- R71: the flags of a WIPED record: the batch's, with PARTIAL added. -/
def BatchFlags.wiped (f : BatchFlags) : BatchFlags := { f with cut := true }

/-- R93: the batch raises BATCH_TORN at completion. -/
def BatchFlags.torn (f : BatchFlags) : Bool := f.spanned || f.forced

end Sys2Proof.Machine
end

