-- ==== Sys2Proof/Machine/Crc.lean ====
section
/-! DEFINITION. The three cyclic redundancy checks: CRC-8 of a header (R136), CRC-16 of a payload (R137) and CRC-32C of the
signatures (R129). -/

namespace Sys2Proof.Machine

/-- One bit of the CRC-8 register, shifting toward its most significant bit: polynomial 07H (R136). -/
def crc8Bit (c : Byte) : Byte := if c.getLsbD 7 then (c <<< 1) ^^^ 0x07#8 else c <<< 1

/-- One byte, most significant bit first (R136). -/
def crc8Byte (c b : Byte) : Byte := (List.range 8).foldl (fun c _ => crc8Bit c) (c ^^^ b)

/-- R136: the header check over `bs`: initial value 00H, no final XOR. -/
def crc8 (bs : List Byte) : Byte := bs.foldl crc8Byte 0

/-- One bit of the CRC-16 register, shifting toward its most significant bit: polynomial 1021H (R137). -/
def crc16Bit (c : BitVec 16) : BitVec 16 := if c.getLsbD 15 then (c <<< 1) ^^^ 0x1021#16 else c <<< 1

/-- One byte, most significant bit first (R137). -/
def crc16Byte (c : BitVec 16) (b : Byte) : BitVec 16 :=
  (List.range 8).foldl (fun c _ => crc16Bit c) (c ^^^ (b.setWidth 16 <<< 8))

/-- R137: the payload check over `bs`: initial value FFFFH, no final XOR. -/
def crc16 (bs : List Byte) : BitVec 16 := bs.foldl crc16Byte 0xFFFF#16

/-- One bit of the reflected CRC-32C register, shifting toward its least significant bit: polynomial 82F63B78H (R129). -/
def crc32cBit (c : BitVec 32) : BitVec 32 := if c.getLsbD 0 then (c >>> 1) ^^^ 0x82F63B78#32 else c >>> 1

/-- One byte, least significant bit first (R129). -/
def crc32cByte (c : BitVec 32) (b : Byte) : BitVec 32 := (List.range 8).foldl (fun c _ => crc32cBit c) (c ^^^ b.setWidth 32)

/-- R129: the initial value of the register. -/
def crc32cInit : BitVec 32 := 0xFFFFFFFF#32

/-- R130: the register after `bs` more stream bytes. -/
def crc32cFold (c : BitVec 32) (bs : List Byte) : BitVec 32 := bs.foldl crc32cByte c

/-- R129: the final XOR turns the register into a signature. -/
def crc32cFinal (c : BitVec 32) : BitVec 32 := c ^^^ 0xFFFFFFFF#32

/-- R129: CRC-32C over `bs`. -/
def crc32c (bs : List Byte) : BitVec 32 := crc32cFinal (crc32cFold crc32cInit bs)

end Sys2Proof.Machine
end

