-- ==== Sys2Proof/Machine/Operands.lean ====
section
/-! DEFINITION. The operand forms: bytes and words, the lanes of a beat, the frame header, and every request and response layout of
section 8.2. -/

namespace Sys2Proof.Machine

/-! ## Bytes, words and lanes -/

/-- R104: data bits 8k+7 to 8k. -/
def byteOf (w : Word) (k : Nat) : Byte := w.extractLsb' (8 * k) 8

/-- The four bytes of a word, most significant first (R135). -/
def bytesOf (w : Word) : List Byte := [byteOf w 3, byteOf w 2, byteOf w 1, byteOf w 0]

/-- The word of four bytes sent most significant byte first (R135). -/
def wordOf (a b c d : Byte) : Word := a ++ b ++ c ++ d

/-- The payload words of a long frame from its payload bytes (R135). -/
def wordsOf : List Byte → List Word
  | a :: b :: c :: d :: rest => wordOf a b c d :: wordsOf rest
  | _ => []

/-- R104: the lanes of a write beat: lane k carries its byte exactly when strobe k is set. -/
def beatLanes (wd : Word) (be : BitVec 4) : Lanes := Vector.ofFn fun k => if be.getLsbD k.val then some (byteOf wd k.val) else none

/-- The lanes of a word of data. -/
def wordLanes (w : Word) : Lanes := Vector.ofFn fun k => some (byteOf w k.val)

/-- No lane carries a byte. -/
def noLanes : Lanes := Vector.replicate 4 none

/-- R113: the reply of a read: each staged byte from the store, each other byte from memory's data in its lane. -/
def mergeRead (staged : Lanes) (mem : Word) : Word :=
  wordOf (staged[3].getD (byteOf mem 3)) (staged[2].getD (byteOf mem 2)) (staged[1].getD (byteOf mem 1))
    (staged[0].getD (byteOf mem 0))

/-- All four lanes carry a byte. -/
def fullLanes (l : Lanes) : Bool := l.toList.all Option.isSome

/-! ## Lines and cells -/

/-- The line address of a byte address: its low five bits cleared (Table I-5). -/
def lineOf (a : Nat) : Nat := a / 32 * 32

/-- The offset of a byte address within its line (R23). -/
def offsetOf (a : Nat) : Nat := a % 32

/-- The lane of a beat at slot byte `off` that falls on slot byte `i`, if there is one (R23). -/
def laneAt (l : Lanes) (off i : Nat) : Option Byte :=
  if h : off ≤ i ∧ i - off < 4 then l[i - off]'h.2 else none

/-- A slot none of whose bytes is valid. -/
def emptyCells : Cells := Vector.replicate 32 none

/-- R30: each strobed byte is written into its slot byte and made valid; the others are unchanged. -/
def mergeCells (cs : Cells) (off : Nat) (l : Lanes) : Cells :=
  Vector.ofFn fun i => match laneAt l off i.val with
    | some b => some b
    | none => cs[i]

/-- R37: each strobed byte whose valid flag is already set is overwritten; the others are unchanged. -/
def passCells (cs : Cells) (off : Nat) (l : Lanes) : Cells :=
  Vector.ofFn fun i => match laneAt l off i.val, cs[i] with
    | some b, some _ => some b
    | _, old => old

/-- The number of valid bytes. -/
def validCount (cs : Cells) : Nat := cs.toList.countP Option.isSome

/-- R30: the bytes a merge newly makes valid: strobed bytes whose slot bytes were not valid before. -/
def newlyValid (cs : Cells) (off : Nat) (l : Lanes) : Nat :=
  (List.finRange 32).countP fun i => (laneAt l off i.val).isSome && cs[i].isNone

/-- The number of set strobes (R31). -/
def strobeCount (be : BitVec 4) : Nat := (List.range 4).countP be.getLsbD

/-- R40: slot byte `i`, when its valid flag is set. -/
def cellAt (cs : Cells) (i : Nat) : Option Byte := if h : i < 32 then cs[i] else none

/-- R87: word `j` of a slot as the lanes of a drain beat. -/
def wordCells (cs : Cells) (j : Nat) : Lanes := Vector.ofFn fun k => cellAt cs (4 * j + k.val)

/-- R87: the word holds at least one valid byte. -/
def wordValid (cs : Cells) (j : Nat) : Bool := (wordCells cs j).toList.any Option.isSome

/-- R87.2: word `j` put before the runs of the words after it: it joins the run that begins with the next word, or begins a
run of its own; a word with no valid byte is skipped. -/
def addWord (cs : Cells) (line j : Nat) (runs : List DrainRun) : List DrainRun :=
  if wordValid cs j then
    match runs with
    | r :: rest =>
      if r.addr = line + 4 * (j + 1) then { addr := line + 4 * j, beats := wordCells cs j :: r.beats } :: rest
      else { addr := line + 4 * j, beats := [wordCells cs j] } :: r :: rest
    | [] => [{ addr := line + 4 * j, beats := [wordCells cs j] }]
  else runs

/-- R87.2: the line's runs of consecutive words with a valid byte, in ascending address order. -/
def runsOf (cs : Cells) (line : Nat) : List DrainRun := (List.range 8).foldr (addWord cs line) []

/-- R128.2: the valid mask: bit i stands for slot byte i. -/
def maskOf (cs : Cells) : BitVec 32 :=
  cs.toList.foldr (fun x acc => (acc <<< 1) ||| (if x.isSome then 1#32 else 0#32)) 0#32

/-- R128: the stream bytes of one line: its address, its valid mask and its valid bytes in ascending address order. -/
def lineStream (line : Nat) (cs : Cells) : List Byte :=
  bytesOf (BitVec.ofNat 32 line) ++ bytesOf (maskOf cs) ++ cs.toList.filterMap id

/-! ## Frames (Tables 8-3 and 8-4) -/

/-- Table 8-3, byte 1: channel in bits 7-6, LONG flag in bit 5, the reserved bit clear, tag in bits 3-0. -/
def headerByte1 (ch : Channel) (long : Bool) (tag : Tag) : Byte :=
  BitVec.ofNat 8 (64 * ch.val + (if long then 32 else 0) + tag.val)

/-- Table 8-3: the channel of header byte 1. -/
def channelOf (b : Byte) : Channel := Fin.ofNat 4 (b.toNat / 64)

/-- Table 8-3: the tag of header byte 1. -/
def tagOf (b : Byte) : Tag := Fin.ofNat 16 b.toNat

/-- Table 8-3: the LONG flag of header byte 1. -/
def longFlag (b : Byte) : Bool := b.getLsbD 5

/-- Table 8-3: the reserved bit of header byte 1. -/
def reservedFlag (b : Byte) : Bool := b.getLsbD 4

/-- R136: three header bytes with their check. -/
def withHeaderCheck (b0 b1 b2 : Byte) : List Byte := [b0, b1, b2, crc8 [b0, b1, b2]]

/-- R137: a payload with its check, most significant byte first. -/
def withPayloadCheck (payload : List Byte) : List Byte :=
  payload ++ [(crc16 payload).extractLsb' 8 8, (crc16 payload).extractLsb' 0 8]

/-- R135: the bytes of a frame in sending order. -/
def frameBytes (kind : Byte) (ch : Channel) (tag : Tag) (body : FrameBody) : List Byte :=
  match body with
  | .short a => withHeaderCheck kind (headerByte1 ch false tag) a
  | .long ws =>
    withHeaderCheck kind (headerByte1 ch true tag) (BitVec.ofNat 8 ws.length) ++ withPayloadCheck (ws.flatMap bytesOf)

/-- Table 8-4. -/
def Reason.code : Reason → Byte
  | .check => 0x01
  | .length => 0x02
  | .unknown => 0x03
  | .range => 0x04
  | .align => 0x05
  | .owner => 0x06
  | .state => 0x07
  | .overlap => 0x08
  | .full => 0x09
  | .oversize => 0x0A
  | .busy => 0x0B
  | .notFound => 0x0C

/-- R156: the bytes of a response frame: ACK 80H, NAK 81H with its reason, DATA 82H with its payload. -/
def Response.bytes (r : Response) : List Byte :=
  match r.reply with
  | .ack => frameBytes 0x80 r.ch r.tag (.short 0x00)
  | .nak why => frameBytes 0x81 r.ch r.tag (.short why.code)
  | .data ws => frameBytes 0x82 r.ch r.tag (.long ws)

/-- The bytes of a request frame as a link master sends it. -/
def Frame.bytes (f : Frame) : List Byte := frameBytes f.kind f.ch f.tag f.body

/-! ## Request payloads (Tables 8-5, 8-6 and 8-8) -/

/-- A field of a word: `len` bits from bit `lo`. -/
def field (w : Word) (lo len : Nat) : Nat := (w.extractLsb' lo len).toNat

/-- Table 8-5: the fields of a WIN_DEFINE payload, before any check. -/
structure WinDefineFields where
  window : Nat
  shape : Nat
  policy : Nat
  mode : Nat
  quota : Nat
  height : Nat
  base : Nat
  length : Nat
  pitch : Nat
  width : Nat
deriving DecidableEq, Repr

/-- Table 8-5. -/
def winDefineFields (w0 w1 w2 w3 w4 : Word) : WinDefineFields where
  window := field w0 24 8
  shape := field w0 16 8
  policy := field w0 8 8
  mode := field w0 0 8
  quota := field w1 16 16
  height := field w1 0 16
  base := w2.toNat
  length := w3.toNat
  pitch := field w4 16 16
  width := field w4 0 16

/-- Table 8-5: the code of a full policy. -/
def policyOfCode : Nat → Option FullPolicy
  | 1 => some .stall
  | 2 => some .pass
  | 3 => some .drop
  | _ => none

/-- Table 8-5: the code of a drain mode. -/
def modeOfCode : Nat → Option DrainMode
  | 1 => some .strict
  | 2 => some .span
  | _ => none

/-- R9: the geometry of a WIN_DEFINE whose geometry fields are all in range, or none. Sums and products are formed without
truncation. -/
def geometryInRange (f : WinDefineFields) : Option Geometry :=
  if f.shape = 1 then
    if f.base ≤ 0xFFFFFF ∧ 4 ≤ f.length ∧ f.length ≤ 16777216 ∧ f.base + f.length ≤ 0x1000000 then
      some (.linear f.base f.length)
    else none
  else if f.shape = 2 then
    if f.base ≤ 0xFFFFFF ∧ 4 ≤ f.pitch ∧ f.pitch ≤ 65532 ∧ 4 ≤ f.width ∧ f.width ≤ f.pitch ∧ 1 ≤ f.height ∧
        f.height ≤ 4096 ∧ f.base + (f.height - 1) * f.pitch + f.width - 1 ≤ 0xFFFFFF then
      some (.rect f.base f.pitch f.width f.height)
    else none
  else none

/-- R9: every field in range, with the window number and the definition the payload gives; none when any field is out of
range. -/
def winDefineInRange (owner : Channel) (f : WinDefineFields) : Option (WindowNo × WindowDef) :=
  if h : f.window < 16 then
    match geometryInRange f, policyOfCode f.policy, modeOfCode f.mode with
    | some g, some p, some m =>
      if 1 ≤ f.quota ∧ f.quota ≤ 512 then
        some (⟨f.window, h⟩, { owner := owner, geometry := g, policy := p, mode := m, quota := f.quota })
      else none
    | _, _, _ => none
  else none

/-- R10: base, length, pitch and width are multiples of 4. -/
def Geometry.aligned : Geometry → Bool
  | .linear base length => base % 4 = 0 && length % 4 = 0
  | .rect base pitch width _ => base % 4 = 0 && pitch % 4 = 0 && width % 4 = 0

/-- R20, R21: the window a short request's argument names, or none when it is greater than 15. -/
def windowArgument (a : Byte) : Option WindowNo := if h : a.toNat < 16 then some ⟨a.toNat, h⟩ else none

/-- Table 8-6: CLOSE: the retire flag and the window mask, or none for a RANGE failure (R51, R157). -/
def closeFields (w : Word) : Option (Bool × BitVec 16) :=
  if field w 17 15 = 0 ∧ w.extractLsb' 0 16 ≠ 0#16 then some (w.getLsbD 16, w.extractLsb' 0 16) else none

/-- Table 8-6: CANCEL: the sequence number, or none for a RANGE failure (R65, R157). -/
def cancelField (w : Word) : Option Sequence :=
  if field w 16 16 = 0 ∧ w.extractLsb' 0 16 ≠ 0#16 then some (w.extractLsb' 0 16) else none

/-- Table 8-6: EVENT_ACK: the event set, or none for a RANGE failure (R157, R173). -/
def eventAckField (w : Word) : Option EventSet := if field w 11 21 = 0 then some (w.extractLsb' 0 11) else none

/-- Table 8-8: CONFIG_SET: the record, or none for a RANGE failure (R162). -/
def configFields (w0 w1 w2 : Word) : Option ConfigRecord :=
  if w0.extractLsb' 16 16 ≠ 0#16 ∧ w1.extractLsb' 16 16 ≠ 0#16 ∧ field w1 1 15 = 0 ∧ field w2 16 16 = 0 ∧ field w2 11 5 = 0 then
    some
      { budget := w0.extractLsb' 16 16, starvationLimit := w0.extractLsb' 0 16, stallLimit := w1.extractLsb' 16 16,
        forceEnable := w1.getLsbD 0, eventMask := w2.extractLsb' 0 11 }
  else none

/-! ## Response payloads (Tables 8-8 to 8-13) -/

/-- Table 8-8: the configuration record as three words. -/
def ConfigRecord.toWords (c : ConfigRecord) : List Word :=
  [c.budget ++ c.starvationLimit, c.stallLimit ++ 0#15 ++ BitVec.ofBool c.forceEnable, 0#21 ++ c.eventMask]

/-- Table 8-9. -/
def identWords : List Word := [0x47224003#32, 0x10082004#32, 0x02000000#32]

/-- Table 8-12: the outcome codes. -/
def LogOutcome.code : LogOutcome → Byte
  | .drained => 0x01
  | .cancelled => 0x02
  | .wiped => 0x03

/-- Table 8-12: the flags byte; bit 16 of the word is bit 0 of the byte. -/
def BatchFlags.toByte (f : BatchFlags) : Byte :=
  0#2 ++ BitVec.ofBool f.cut ++ BitVec.ofBool f.memError ++ BitVec.ofBool f.writeBypassed ++ BitVec.ofBool f.writeLost ++
    BitVec.ofBool f.forced ++ BitVec.ofBool f.spanned

/-- Table 8-12: a completion record as five words. -/
def CompletionRecord.toWords (r : CompletionRecord) : List Word :=
  [r.seq ++ r.mask, r.outcome.code ++ r.flags.toByte ++ r.intervals ++ 0#8, BitVec.ofNat 16 r.lines ++ r.frameCount,
    BitVec.ofNat 32 r.bytes, r.signature]

/-- Table 8-13: the WIPE response. -/
def wipeWord (dropped slots windows : Nat) : Word := BitVec.ofNat 8 dropped ++ BitVec.ofNat 16 slots ++ BitVec.ofNat 8 windows

/-- Table 8-5: the codes WIN_QUERY reports (Table 8-11). -/
def FullPolicy.code : FullPolicy → BitVec 2
  | .stall => 1
  | .pass => 2
  | .drop => 3

/-- Table 8-5. -/
def DrainMode.code : DrainMode → BitVec 2
  | .strict => 1
  | .span => 2

/-- Table 8-5. -/
def Geometry.code : Geometry → BitVec 2
  | .linear _ _ => 1
  | .rect _ _ _ _ => 2

/-- Table 8-11, words 0 to 3 of a window that is not FREE. -/
def definedWords (w : WindowNo) (stateCode : BitVec 4) (flags : GroupFlags) (epoch : Epoch) (d : WindowDef) : List Word :=
  let word0 : Word := BitVec.ofNat 8 w.val ++ stateCode ++ 0#2 ++ BitVec.ofBool flags.writeBypassed ++
    BitVec.ofBool flags.writeLost ++ epoch ++ BitVec.ofNat 2 d.owner.val ++ d.geometry.code ++ d.policy.code ++ d.mode.code
  match d.geometry with
  | .linear base length => [word0, BitVec.ofNat 32 base, BitVec.ofNat 32 length, 0#16 ++ BitVec.ofNat 16 d.quota]
  | .rect base pitch width height =>
    [word0, BitVec.ofNat 32 base, BitVec.ofNat 16 pitch ++ BitVec.ofNat 16 width, BitVec.ofNat 16 height ++ BitVec.ofNat 16 d.quota]

/-- The flags of a group that has just opened (R1). -/
def noGroupFlags : GroupFlags := { writeLost := false, writeBypassed := false }

/-- R21 and Table 8-11: the six words of WIN_QUERY; a field absent in the entry's state is zero. DESIGN CHOICE (log entry 16): the
window number is reported for a FREE window too. R21 says that such a window is reported "with its state code and zeros elsewhere",
as a consequence of its absent fields, and the number is no field of Table 1-1. -/
def WindowEntry.toWords (w : WindowNo) : WindowEntry → List Word
  | .free => [BitVec.ofNat 8 w.val ++ 0#24, 0#32, 0#32, 0#32, 0#32, 0#32]
  | .idle d e => definedWords w 1 noGroupFlags e d ++ [0#32, 0#32]
  | .capturing d e held g =>
    definedWords w 2 g.flags e d ++ [BitVec.ofNat 16 held ++ BitVec.ofNat 16 g.lines, BitVec.ofNat 16 g.bytes ++ 0#16]
  | .retiring d e held q => definedWords w 3 noGroupFlags e d ++ [BitVec.ofNat 16 held ++ 0#16, 0#16 ++ q]

end Sys2Proof.Machine
end

