-- ==== Sys2Proof/Machine/Ops.lean ====
section
/-! DEFINITION. The shared operations over the state: one named update for each field, the window entries, the events, and the answers of
the host port. -/

namespace Sys2Proof.Machine

/-! ## One update for each field -/

def State.setResetn (s : State) (x : Bool) : State := { s with resetn := x }
def State.setQuiet (s : State) (x : Bool) : State := { s with quiet := x }
def State.setLsel (s : State) (x : Bool) : State := { s with lsel := x }
def State.setWindows (s : State) (x : Vector WindowEntry 16) : State := { s with windows := x }
def State.setSlots (s : State) (x : List Slot) : State := { s with slots := x }
def State.setQueue (s : State) (x : List BatchRecord) : State := { s with queue := x }
def State.setNextSeq (s : State) (x : Sequence) : State := { s with nextSeq := x }
def State.setDrain (s : State) (x : DrainEngine) : State := { s with drain := x }
def State.setHpi (s : State) (x : Hpi) : State := { s with hpi := x }
def State.setMpa (s : State) (x : Mpa) : State := { s with mpa := x }
def State.setChain (s : State) (x : BitVec 32) : State := { s with chain := x }
def State.setLog (s : State) (x : CompletionLog) : State := { s with log := x }
def State.setSlc (s : State) (x : Slc) : State := { s with slc := x }
def State.setConfig (s : State) (x : ConfigRecord) : State := { s with config := x }
def State.setEvents (s : State) (x : EventSet) : State := { s with events := x }
def State.setFreeIndex (s : State) (x : Nat) : State := { s with freeIndex := x }
def State.setPending (s : State) (x : List Instr) : State := { s with pending := x }

/-- A command taken while RESETN is low changes nothing: each block ignores its inputs then (R2, R76, R118, R134, R170). -/
def whenReleased (f : State → State) (s : State) : Host.Outcome State Fault Refusal := .next (if s.resetn then f s else s)

/-! ## Window entries -/

/-- The sixteen window numbers in ascending order. -/
def allWindows : List WindowNo := [0, 1, 2, 3, 4, 5, 6, 7, 8, 9, 10, 11, 12, 13, 14, 15]

/-- The entry of a window. -/
def State.win (s : State) (w : WindowNo) : WindowEntry := s.windows[w.val]'w.isLt

/-- The table with one entry replaced. -/
def State.setWin (s : State) (w : WindowNo) (e : WindowEntry) : State := s.setWindows (s.windows.set w.val e w.isLt)

/-- Every entry changed by a function of its number. -/
def State.mapWindows (s : State) (f : WindowNo → WindowEntry → WindowEntry) : State :=
  s.setWindows (Vector.ofFn fun w => f w (s.win w))

/-- The definition of an entry that is not FREE. -/
def WindowEntry.definition : WindowEntry → Option WindowDef
  | .free => none
  | .idle d _ | .capturing d _ _ _ | .retiring d _ _ _ => some d

def WindowEntry.isFree : WindowEntry → Bool
  | .free => true
  | _ => false

def WindowEntry.isIdle : WindowEntry → Bool
  | .idle _ _ => true
  | _ => false

def WindowEntry.isCapturing : WindowEntry → Bool
  | .capturing _ _ _ _ => true
  | _ => false

/-- R28: the slots-held count; 0 in FREE and IDLE (Table 1-1). -/
def WindowEntry.slotsHeld : WindowEntry → Nat
  | .free | .idle _ _ => 0
  | .capturing _ _ n _ | .retiring _ _ n _ => n

/-- R1: the open group of a CAPTURING window, with its epoch. -/
def WindowEntry.openGroup : WindowEntry → Option (Epoch × OpenGroup)
  | .capturing _ e _ g => some (e, g)
  | _ => none

/-- R1: a group that has just opened. -/
def newGroup : OpenGroup := { lines := 0, bytes := 0, flags := noGroupFlags }

/-- R42: the slots-held count falls by the number of the window's slots freed. -/
def WindowEntry.dropHeld (n : Nat) : WindowEntry → WindowEntry
  | .capturing d e h g => .capturing d e (h - n) g
  | .retiring d e h q => .retiring d e (h - n) q
  | x => x

/-- R33, R107: a flag set on the window's open group, if it has one. -/
def WindowEntry.markGroup (f : GroupFlags → GroupFlags) : WindowEntry → WindowEntry
  | .capturing d e h g => .capturing d e h { g with flags := f g.flags }
  | x => x

/-- A flag set on the open group of one window. -/
def State.markGroup (s : State) (w : WindowNo) (f : GroupFlags → GroupFlags) : State := s.setWin w ((s.win w).markGroup f)

/-! ## Events -/

/-- R169: a cause sets an event. -/
def State.setEvent (s : State) (e : Event) : State := s.setEvents (EventSet.with s.events e)

/-! ## The drain engine's and the link's fields -/

def State.setActivity (s : State) (a : DrainActivity) : State := s.setDrain { s.drain with activity := a }
def State.setPhase (s : State) (p : DrainPhase) : State := s.setDrain { s.drain with phase := p }
def State.setRemainder (s : State) (n : Nat) : State := s.setDrain { s.drain with remainder := n }
def State.setBegun (s : State) (b : Bool) : State := s.setDrain { s.drain with begun := b }
def State.setTimer (s : State) (t : StarvationTimer) : State := s.setDrain { s.drain with timer := t }
def State.setInterlock (s : State) (l : Option Nat) : State := s.setMpa { s.mpa with interlock := l }
def State.setResponses (s : State) (ps : List Place) : State := s.setSlc { s.slc with responses := ps }
def State.setAssembler (s : State) (a : Assembler) : State := s.setSlc { s.slc with assembler := a }

/-- R96: the timer cleared: STOPPED with elapsed time 0. -/
def clearedTimer : StarvationTimer := { expired := false, elapsed := 0, micros := 0 }

/-! ## The host transaction -/

/-- Table I-2: HP_ADR[23:2] names word `i` of the request at address (request address + 4 × i) (R103). -/
def HostRequest.beatAddr (r : HostRequest) (i : Nat) : Nat := 4 * (r.adr.toNat + i)

/-- R103: the transaction that begins when the HPI takes a request. -/
def HostRequest.begin (r : HostRequest) : HostTransaction := { req := r, index := 0, beat := .waiting }

/-- The address of the beat at the transaction's next index. -/
def HostTransaction.addr (t : HostTransaction) : Nat := t.req.beatAddr t.index

/-- R103: the transaction ends when its last beat is answered, and a request that waits on the host port is then taken. -/
def Hpi.takeWaiting (h : Hpi) : Hpi :=
  match h.waiting with
  | r :: rest => { h with txn := some r.begin, waiting := rest }
  | [] => { h with txn := none }

/-- R104: the beat at the next index is answered, once; the transaction goes on to its next beat or ends. -/
def State.answerBeat (s : State) (err : Bool) (data : Option Word) : State :=
  match s.hpi.txn with
  | some t =>
    let answered : Hpi := { s.hpi with answer := some { err := err, data := data } }
    if t.index < t.req.cnt.toNat then s.setHpi { answered with txn := some { t with index := t.index + 1, beat := .waiting } }
    else s.setHpi answered.takeWaiting
  | none => s

/-- Where the current beat stands. -/
def State.setBeat (s : State) (b : BeatStatus) : State :=
  match s.hpi.txn with
  | some t => s.setHpi { s.hpi with txn := some { t with beat := b } }
  | none => s

/-- R108: the held beat, if there is one. -/
def Hpi.held (h : Hpi) : Option HeldBeat :=
  match h.txn with
  | some t =>
    match t.beat with
    | .held b => some b
    | _ => none
  | none => none

/-! ## The memory port -/

/-- R114: the host path's request joins the arbiter. -/
def State.requestHost (s : State) (t : PortTxn) : State := s.setMpa { s.mpa with hostReq := some t }

/-- R115: a grant is made when the port is NONE and a requester waits; of two, the one other than the last grant. -/
def Mpa.arbitrate (m : Mpa) : Mpa :=
  match m.port with
  | some _ => m
  | none =>
    match m.hostReq, m.drainReq, m.lastGrant with
    | none, none, _ => m
    | some h, none, _ | some h, some _, .drain => { m with port := some h, hostReq := none, lastGrant := .host }
    | none, some r, _ | some _, some r, .host => { m with port := some (.drainRun r 0), drainReq := none, lastGrant := .drain }

/-- The arbiter makes the grant that is due at the end of an event (log entry 8). -/
def State.arbitrate (s : State) : State := s.setMpa s.mpa.arbitrate

/-- R105: a beat passed to memory as a write of one beat. -/
def State.passWrite (s : State) (addr : Nat) (wd : Word) (be : BitVec 4) : State :=
  (s.setBeat .writing).requestHost (.hostWrite addr be wd)

/-! ## The completion log -/

/-- R120: the free unreserved entries. -/
def CompletionLog.freeEntries (l : CompletionLog) : Nat :=
  Config.logCapacity - l.records.length - (if l.reserved then 1 else 0)

/-- R120: a new record joins at the tail. -/
def CompletionLog.post (l : CompletionLog) (r : CompletionRecord) : CompletionLog := { l with records := l.records ++ [r] }

/-- R49: after 65535 the next value is 1; 0 is not used. -/
def nextSequence (q : Sequence) : Sequence := if q = 0xFFFF#16 then 1#16 else q + 1#16

end Sys2Proof.Machine
end

