-- ==== Sys2Proof/Machine/Store.lean ====
section
/-! DEFINITION. The staging store (chapter 2): the line map, allocation and merging, the PASS update, the newest-copy lookup and the
freeing of slots. -/

namespace Sys2Proof.Machine

/-! ## The line map (R25, R26) -/

/-- R25: the slot has the key (window, epoch, line address). -/
def Slot.hasKey (x : Slot) (w : WindowNo) (e : Epoch) (line : Nat) : Bool := x.window = w && x.epoch = e && x.line = line

/-- The order in which the store lists its slots: window, then epoch, then line address. -/
def Slot.before (x y : Slot) : Bool :=
  x.window < y.window || x.window = y.window && (x.epoch < y.epoch || x.epoch = y.epoch && x.line < y.line)

/-- R26: key lookup. -/
def findSlot (slots : List Slot) (w : WindowNo) (e : Epoch) (line : Nat) : Option Slot := slots.find? (·.hasKey w e line)

/-- R26: group listing, in ascending line address. -/
def groupSlots (slots : List Slot) (m : Member) : List Slot := slots.filter fun x => x.window = m.window && x.epoch = m.epoch

/-- A new slot put into its place in the store's order. -/
def insertSlot (x : Slot) : List Slot → List Slot
  | [] => [x]
  | y :: ys => if x.before y then x :: y :: ys else y :: insertSlot x ys

/-- The slots that satisfy `p` changed by `f`. -/
def changeSlots (p : Slot → Bool) (f : Slot → Slot) (slots : List Slot) : List Slot := slots.map fun x => if p x then f x else x

/-- R27: the free-slot count. -/
def State.freeSlotCount (s : State) : Nat := Config.slotCount - s.slots.length

/-! ## Write beats (R29 to R31) -/

/-- R30, R31: a beat of a CAPTURING window with a strobe set is merged into the slot with its key, or is given a new slot when
the pool is not empty and the window is below its quota; `none` when no slot is available, or the window is not CAPTURING. -/
def State.stage (s : State) (w : WindowNo) (addr : Nat) (wd : Word) (be : BitVec 4) : Option State :=
  match s.win w with
  | .capturing d e held g =>
    match findSlot s.slots w e (lineOf addr) with
    | some x =>
      some ((s.setSlots (changeSlots (·.hasKey w e (lineOf addr))
          (fun y => { y with cells := mergeCells y.cells (offsetOf addr) (beatLanes wd be) }) s.slots)).setWin w
        (.capturing d e held { g with bytes := g.bytes + newlyValid x.cells (offsetOf addr) (beatLanes wd be) }))
    | none =>
      if 0 < s.freeSlotCount ∧ held < d.quota then
        some ((s.setSlots (insertSlot
            { status := .opened, window := w, epoch := e, line := lineOf addr,
              cells := mergeCells emptyCells (offsetOf addr) (beatLanes wd be), written := false } s.slots)).setWin w
          (.capturing d e (held + 1) { g with lines := g.lines + 1, bytes := g.bytes + strobeCount be }))
      else none
  | _ => none

/-! ## The PASS update (R37) -/

/-- R37: in every slot of the window that holds the beat's line, each strobed byte already valid is overwritten. -/
def passUpdate (w : WindowNo) (addr : Nat) (wd : Word) (be : BitVec 4) (slots : List Slot) : List Slot :=
  changeSlots (fun x => x.window = w && x.line = lineOf addr)
    (fun x => { x with cells := passCells x.cells (offsetOf addr) (beatLanes wd be) }) slots

/-! ## Reads (R15, R40) -/

/-- R57: the window's groups in the commit queue, in closing order. -/
def queueGroups (queue : List BatchRecord) (w : WindowNo) : List (Sequence × Epoch) :=
  queue.filterMap fun r => (r.members.find? (·.window = w)).map fun m => (r.seq, m.epoch)

/-- R15: the epochs of the window's groups, newest first: its open group, then its closed groups from the tail of the queue. -/
def State.epochsNewestFirst (s : State) (w : WindowNo) : List Epoch :=
  (match s.win w with
    | .capturing _ e _ _ => [e]
    | _ => []) ++ ((queueGroups s.queue w).map Prod.snd).reverse

/-- R40: the newest staged copy of one byte, or none when no group stages it. -/
def State.newestByte (s : State) (w : WindowNo) (addr : Nat) : Option Byte :=
  (s.epochsNewestFirst w).findSome? fun e =>
    match findSlot s.slots w e (lineOf addr) with
    | some x => cellAt x.cells (offsetOf addr)
    | none => none

/-- R40: the staged bytes of a word. -/
def State.stagedLanes (s : State) (w : WindowNo) (addr : Nat) : Lanes := Vector.ofFn fun k => s.newestByte w (addr + k.val)

/-! ## Freeing (R42 to R45) -/

/-- R42: the slots that satisfy `p` are freed: they leave the store, and the slots-held count of each window falls by the number
of its slots freed. -/
def State.freeSlots (s : State) (p : Slot → Bool) : State :=
  (s.setSlots (s.slots.filter fun x => !p x)).mapWindows fun w e => e.dropHeld (s.slots.countP fun x => p x && x.window = w)

/-- The number of slots that `State.freeSlots` frees. -/
def State.freedCount (s : State) (p : Slot → Bool) : Nat := s.slots.countP p

/-- R42, R43: the slot belongs to the batch: its window and epoch are those of one of the members. -/
def Slot.inBatch (ms : List Member) (x : Slot) : Bool := ms.any fun m => x.window = m.window && x.epoch = m.epoch

/-- R44: the slot is OPEN and of the window. -/
def Slot.openOf (w : WindowNo) (x : Slot) : Bool := x.status = .opened && x.window = w

end Sys2Proof.Machine
end

