-- ==== Sys2Proof/Machine/HostPath.lean ====
section
/-! DEFINITION. The host path (chapter 5): classification of a beat, its routes, held beats, PASS writes and the line interlock. -/

namespace Sys2Proof.Machine

/-! ## Membership and classification (R3 to R6) -/

/-- R3, R4: the address is a member of the window. -/
def Geometry.contains (a : Nat) : Geometry → Bool
  | .linear base length => base ≤ a && a ≤ base + length - 1
  | .rect base pitch width height => base ≤ a && (a - base) / pitch < height && (a - base) % pitch < width

/-- R3, R4: the first and the last address of the span. -/
def Geometry.span : Geometry → Nat × Nat
  | .linear base length => (base, base + length - 1)
  | .rect base pitch width height => (base, base + (height - 1) * pitch + width - 1)

/-- R11: two spans intersect. -/
def spansMeet (x y : Nat × Nat) : Bool := x.1 ≤ y.2 && y.1 ≤ x.2

/-- R6: the entry is not FREE and the address is a member. -/
def WindowEntry.contains (a : Nat) (e : WindowEntry) : Bool :=
  match e.definition with
  | some d => d.geometry.contains a
  | none => false

/-- R6: the window the address is a member of, if there is one. -/
def State.windowAt (s : State) (a : Nat) : Option WindowNo := allWindows.find? fun w => (s.win w).contains a

/-! ## Held beats (R108, R109) -/

/-- R109: a write beat becomes held, and the stall timer starts from 0. -/
def State.hold (s : State) (w : WindowNo) (addr : Nat) (wd : Word) (be : BitVec 4) (why : HoldReason) : State :=
  s.setBeat (.held { window := w, addr := addr, be := be, wd := wd, reason := why, elapsed := 0 })

/-! ## PASS writes (R107, R116) -/

/-- R107: the issue of a pass write, as one effect: the older staged copies are updated, WRITE_BYPASSED is set on the open group
as it stands and as an event, and the write joins the arbiter. -/
def State.issuePass (s : State) (p : PassBeat) : State :=
  ((((s.setSlots (passUpdate p.window p.addr p.wd p.be s.slots)).markGroup p.window GroupFlags.setBypassed).setEvent
    .writeBypassed).setBeat .writing).requestHost (.hostWrite p.addr p.be p.wd)

/-- R116: a beat at the interlock is issued when the interlock does not name its line. -/
def State.tryIssue (s : State) : State :=
  match s.hpi.txn with
  | some t =>
    match t.beat with
    | .atInterlock p => if s.mpa.interlock = some (lineOf p.addr) then s else s.issuePass p
    | _ => s
  | none => s

/-! ## Write beats (R105, R106) -/

/-- R106: a write beat of a CAPTURING window: staged, or handled under the window's full policy. -/
def State.offer (s : State) (d : WindowDef) (w : WindowNo) (addr : Nat) (wd : Word) (be : BitVec 4) : State :=
  if be = 0#4 then s.answerBeat false none
  else
    match s.stage w addr wd be with
    | some t => t.answerBeat false none
    | none =>
      match d.policy with
      | .stall => s.hold w addr wd be .stall
      | .pass => (s.setBeat (.atInterlock { window := w, addr := addr, be := be, wd := wd })).tryIssue
      | .drop => ((s.markGroup w GroupFlags.setLost).setEvent .writeLost).answerBeat true none

/-- Table 5-1: the route of a write beat at `addr`. -/
def State.routeWrite (s : State) (addr : Nat) (wd : Word) (be : BitVec 4) : State :=
  if Config.lastWordAddress < addr then s.answerBeat true none
  else
    match s.windowAt addr with
    | none => s.passWrite addr wd be
    | some w =>
      match s.win w with
      | .free | .idle _ _ => s.passWrite addr wd be
      | .capturing d _ _ _ => s.offer d w addr wd be
      | .retiring _ _ _ _ => s.hold w addr wd be .retire

/-! ## Read beats (R105, R113) -/

/-- R113: the read of a word of which the store gave `staged`: answered at once when all four bytes are staged, else read from
memory. -/
def State.readStaged (s : State) (addr : Nat) (staged : Lanes) : State :=
  if fullLanes staged then s.answerBeat false (some (mergeRead staged 0))
  else (s.setBeat (.reading staged)).requestHost (.hostRead addr)

/-- R104: a read beat beyond the address space: ERROR. The spec states no data for the answer, so its word is a free value
(DESIGN CHOICE, log entry 1). -/
def State.readBeyond (s : State) : State :=
  (s.answerBeat true (some (Config.freeReadWord s.freeIndex))).setFreeIndex (s.freeIndex + 1)

/-- Table 5-1: the route of a read beat at `addr`. -/
def State.routeRead (s : State) (addr : Nat) : State :=
  if Config.lastWordAddress < addr then s.readBeyond
  else
    match s.windowAt addr with
    | none => s.readStaged addr noLanes
    | some w =>
      match s.win w with
      | .free | .idle _ _ => s.readStaged addr noLanes
      | .capturing _ _ _ _ | .retiring _ _ _ _ => s.readStaged addr (s.stagedLanes w addr)

/-! ## The ends of a held beat (R46, R110, R111) -/

/-- R46: the held STALL beat re-offered against its window's state at that moment. -/
def State.retryHeld (s : State) : State :=
  match s.hpi.held with
  | some h =>
    match h.reason with
    | .retire => s
    | .stall =>
      match s.win h.window with
      | .capturing _ _ _ _ =>
        match s.stage h.window h.addr h.wd h.be with
        | some t => t.answerBeat false none
        | none => s
      | .retiring _ _ _ _ => s.setBeat (.held { h with reason := .retire })
      | .idle _ _ => s.passWrite h.addr h.wd h.be
      | .free => s
  | none => s

/-- R110: a held beat whose window has become IDLE is classified IDLE and passed to memory. -/
def State.releaseHeld (s : State) : State :=
  match s.hpi.held with
  | some h => if (s.win h.window).isIdle then s.passWrite h.addr h.wd h.be else s
  | none => s

/-- R66.7, R93.7: after a freeing of `freed` slots and its retire notices: the retry of a STALL beat when a slot was freed, and
the release of a beat whose window is IDLE. -/
def State.afterFreeing (s : State) (freed : Nat) : State := (if 0 < freed then s.retryHeld else s).releaseHeld

/-- R111: the stall limit of the held beat expires. -/
def State.expireStall (s : State) : State :=
  match s.hpi.held with
  | some h =>
    let t := (s.answerBeat true none).setEvent .stallTimeout
    if (s.win h.window).isCapturing then (t.markGroup h.window GroupFlags.setLost).setEvent .writeLost else t
  | none => s

/-! ## Memory's answer to the host path (R105, R107, R113) -/

/-- Memory answers the host path's beat, and the host beat is answered as memory answered. -/
def State.answerFromMemory (s : State) (err : Bool) (rd : Word) : State :=
  match s.hpi.txn with
  | some t =>
    match t.beat with
    | .writing => s.answerBeat err none
    | .reading staged => s.answerBeat err (some (mergeRead staged rd))
    | _ => s
  | none => s

end Sys2Proof.Machine
end

