-- ==== Sys2Proof/Machine/Drain.lean ====
section
/-! DEFINITION. The commit queue's hand-off and the drain engine (chapters 3 and 4): drain order, starting, writing and ending lines,
completion, the starvation timer, and the signature unit's folds (chapter 6). -/

namespace Sys2Proof.Machine

/-! ## Batch records -/

/-- R48: the drain fields of a DRAINING record. -/
def BatchRecord.drainFields (r : BatchRecord) : Option DrainFields :=
  match r.state with
  | .draining f => some f
  | .queued => none

def BatchRecord.isQueued (r : BatchRecord) : Bool := r.drainFields.isNone

def BatchRecord.isDraining (r : BatchRecord) : Bool := r.drainFields.isSome

/-- R119: the member mask of a record: bit w names window w. -/
def memberMask (ms : List Member) : BitVec 16 := ms.foldl (fun acc m => acc ||| (1#16 <<< m.window.val)) 0#16

/-- The head record changed; the records behind it stay. -/
def State.changeHead (s : State) (f : BatchRecord → BatchRecord) : State :=
  match s.queue with
  | r :: rest => s.setQueue (f r :: rest)
  | [] => s

/-- The drain fields of the DRAINING head, with its record. -/
def State.drainingHead (s : State) : Option (BatchRecord × DrainFields) :=
  match s.queue with
  | r :: _ => r.drainFields.map fun f => (r, f)
  | [] => none

/-- The flags of the head record changed (R59). -/
def State.flagHead (s : State) (f : BatchFlags → BatchFlags) : State := s.changeHead fun r => { r with flags := f r.flags }

def BatchFlags.setSpanned (f : BatchFlags) : BatchFlags := { f with spanned := true }
def BatchFlags.setForced (f : BatchFlags) : BatchFlags := { f with forced := true }
def BatchFlags.setMemError (f : BatchFlags) : BatchFlags := { f with memError := true }

/-! ## Drain order (R86) -/

/-- R86: the lines of a batch in drain order: members in ascending window number, and each member's lines in ascending line
address. -/
def drainOrder (slots : List Slot) (ms : List Member) : List (Member × Nat) :=
  ms.flatMap fun m => (groupSlots slots m).map fun x => (m, x.line)

/-- R86: the line after `p` in the order, or none past the end. -/
def lineAfter (p : Member × Nat) : List (Member × Nat) → Option (Member × Nat)
  | [] => none
  | x :: rest => if x = p then rest.head? else lineAfter p rest

/-- The slot at a resume point. -/
def State.slotAt (s : State) (p : Member × Nat) : Option Slot := findSlot s.slots p.1.window p.1.epoch p.2

/-- R81: the intervals count rises by one unless it stands at 255. -/
def saturatingSucc (n : BitVec 8) : BitVec 8 := if n = 0xFF#8 then n else n + 1#8

/-! ## Writing lines (R81, R82, R87, R92) -/

/-- R87.1 to R87.3 for the line of slot `x`: its bytes are read, the line is charged in phase QUIET (R82), FORCED is set in phase
FORCED (R92), the intervals count rises at the first line of an opportunity (R81), the interlock names the line (R116), and its
first run is requested. -/
def State.beginSlot (s : State) (m : Member) (x : Slot) : State :=
  let runs := runsOf x.cells x.line
  let engine : DrainEngine :=
    { s.drain with
      activity := .writing { member := m, line := x.line, cells := x.cells, runs := runs.tail }
      remainder := if s.drain.phase = .quiet then s.drain.remainder - validCount x.cells else s.drain.remainder
      begun := true }
  ((s.changeHead fun r =>
      { r with
        flags := if s.drain.phase = .forced then r.flags.setForced else r.flags
        intervals := if s.drain.begun then r.intervals else saturatingSucc r.intervals }).setDrain engine).setMpa
    { s.mpa with interlock := some x.line, drainReq := runs.head? }

/-- R87: the line at the DRAINING head's resume point is begun. -/
def State.beginLine (s : State) : State :=
  match s.drainingHead with
  | some (_, f) =>
    match f.resume with
    | some p =>
      match s.slotAt p with
      | some x => s.beginSlot p.1 x
      | none => s
    | none => s
  | none => s

/-- R87.4: the end of a line: the slot's written flag, the drained counts, the fold of the line into the running signature (R130),
the resume point (R86) and the interlock (R116). -/
def State.endLine (s : State) (l : LineInProgress) : State :=
  let t := s.changeHead fun r =>
    match r.state with
    | .draining f =>
      { r with
        state := .draining
          { resume := lineAfter (l.member, l.line) (drainOrder s.slots r.members), lines := f.lines + 1,
            bytes := f.bytes + validCount l.cells, crc := crc32cFold f.crc (lineStream l.line l.cells) } }
    | .queued => r
  (t.setSlots (changeSlots (·.hasKey l.member.window l.member.epoch l.line) (fun x => { x with written := true }) s.slots)).setInterlock
    none

/-- R90: the batch has lines left after the line in progress. -/
def State.linesLeft (s : State) (l : LineInProgress) : Bool :=
  match s.drainingHead with
  | some (r, _) => (lineAfter (l.member, l.line) (drainOrder s.slots r.members)).isSome
  | none => false

/-! ## Completion (R93) -/

/-- R61, R98: the queue has become empty: a forced stretch ends. -/
def State.queueEmptied (s : State) : State :=
  if s.queue = [] ∧ s.drain.phase = .forced then s.setPhase .closed else s

/-- R17: the retire notices of a completion: each member RETIRING on this batch becomes IDLE. -/
def State.retireMembers (s : State) (ms : List Member) (q : Sequence) : State :=
  s.mapWindows fun w e =>
    match e with
    | .retiring d ep _ rs => if (ms.any fun m => m.window = w) && rs = q then .idle d ep else e
    | _ => e

/-- R122: the DRAINED record. -/
def drainedRecord (r : BatchRecord) (f : DrainFields) (frameCount : BitVec 16) : CompletionRecord where
  seq := r.seq
  mask := memberMask r.members
  outcome := .drained
  flags := r.flags
  intervals := r.intervals
  lines := f.lines
  frameCount := frameCount
  bytes := f.bytes
  signature := crc32cFinal f.crc

/-- R131: the chain after a batch signature is folded in. -/
def foldChain (chain sig : BitVec 32) : BitVec 32 := crc32c (bytesOf chain ++ bytesOf sig)

/-- R93: the DRAINING head completes, in the rule's order; the activity is then IDLE. -/
def State.completeBatch (s : State) : State :=
  match s.drainingHead with
  | some (r, f) =>
    let freed := s.freedCount (Slot.inBatch r.members)
    let s1 := s.freeSlots (Slot.inBatch r.members)
    let s2 := s1.setLog { (s1.log.post (drainedRecord r f s.drain.frameCount)) with reserved := false }
    let s3 := s2.setChain (foldChain s2.chain (crc32cFinal f.crc))
    let s4 := (s3.setQueue s3.queue.tail).queueEmptied
    let s5 := (s4.retireMembers r.members r.seq).setEvent .batchDone
    let s6 := if r.flags.torn then s5.setEvent .batchTorn else s5
    (s6.setActivity .idle).afterFreeing freed
  | none => s

/-! ## Starting a batch (R83 to R85, R94) -/

/-- R83, condition 3: the head fits the remainder. -/
def State.headFits (s : State) (r : BatchRecord) : Bool :=
  match (drainOrder s.slots r.members).head? with
  | none => true
  | some p =>
    if r.strict then r.bytes ≤ s.drain.remainder
    else
      match s.slotAt p with
      | some x => validCount x.cells ≤ s.drain.remainder
      | none => true

/-- R83, conditions 1 to 3. -/
def State.startable (s : State) : Bool :=
  match s.queue with
  | r :: _ =>
    r.isQueued &&
      match s.drain.phase with
      | .closed => false
      | .quiet => s.headFits r
      | .forced => true
  | [] => false

/-- R84: WAIT_LOG, with LOG_FULL set on entry. -/
def State.waitForLog (s : State) : State :=
  match s.drain.activity with
  | .waitLog => s
  | _ => (s.setActivity .waitLog).setEvent .logFull

/-- R85, parts 1 to 4, for the head `r`: the reservation, the head and its slots DRAINING, the drain fields and the mark. -/
def State.reserveHead (s : State) (r : BatchRecord) : State :=
  ((((s.setLog { s.log with reserved := true }).changeHead fun x =>
      { x with
        state := .draining
          { resume := (drainOrder s.slots r.members).head?, lines := 0, bytes := 0, crc := crc32cInit } }).setSlots
    (changeSlots (Slot.inBatch r.members) (fun x => { x with status := .draining }) s.slots)).setBegun false)

/-- R83 to R85 and R94: the start conditions are tested; a head that may start is started, and a batch with no lines completes at
once, after which the conditions are tested for the next head. The number bounds the batches so completed. -/
def State.testStart : Nat → State → State
  | 0, s => s
  | n + 1, s =>
    match s.drain.activity with
    | .writing _ | .held => s
    | .idle | .waitLog =>
      match s.queue with
      | r :: _ =>
        if s.startable then
          if s.log.freeEntries = 0 then s.waitForLog
          else if drainOrder s.slots r.members = [] then State.testStart n (s.reserveHead r).completeBatch
          else (s.reserveHead r).beginLine
        else s.setActivity .idle
      | [] => s.setActivity .idle

/-- The test of the start conditions, long enough for every batch in the queue. -/
def State.startBatches (s : State) : State := State.testStart (s.queue.length + 1) s

/-- R88: what follows a line end: completion and the next start (R94), the next line, or a pause. A WIPE taken together with the
completion (`wipeNext`) comes between it and the next start, and finds the next record QUEUED (R73; log entry 20). -/
def State.afterLine (s : State) (wipeNext : Bool) : State :=
  match s.drainingHead with
  | some (_, f) =>
    match f.resume with
    | none => if wipeNext then s.completeBatch else s.completeBatch.startBatches
    | some p =>
      match s.drain.phase with
      | .forced => s.beginLine
      | .closed => s.setActivity .held
      | .quiet =>
        match s.slotAt p with
        | some x => if validCount x.cells ≤ s.drain.remainder then s.beginLine else (s.flagHead BatchFlags.setSpanned).setActivity .held
        | none => s
  | none => s

/-- R91, R97: a new opportunity: a HELD batch resumes, an engine that drains nothing tests the start conditions, a line in progress
goes on. -/
def State.proceed (s : State) : State :=
  match s.drain.activity with
  | .held => s.beginLine
  | .writing _ => s
  | .idle | .waitLog => s.startBatches

/-! ## The starvation timer (R96, R97) -/

/-- R96: the states of the timer. -/
inductive TimerState where
  | stopped
  | running
  | expired
deriving DecidableEq, Repr

/-- R96: the conditions under which the timer counts. -/
def State.timerRuns (s : State) : Bool :=
  s.config.starvationLimit != 0#16 && !s.queue.isEmpty && !s.quiet && s.drain.phase != .forced && !s.drain.timer.expired

/-- R96: STOPPED, RUNNING or EXPIRED. -/
def State.starvationState (s : State) : TimerState :=
  if s.drain.timer.expired then .expired else if s.timerRuns then .running else .stopped

/-- R97, R99: the timer expired at a limit of `limit` milliseconds: it stops counting, and an elapsed time at or above the limit is kept.
One below it reaches the limit (DESIGN CHOICE, log entry 4: an expiry commanded before the time has come). -/
def StarvationTimer.expire (t : StarvationTimer) (limit : Nat) : StarvationTimer :=
  if limit ≤ t.elapsed then { t with expired := true } else { expired := true, elapsed := limit, micros := 0 }

/-- R97: the elapsed time is at or above the starvation limit. -/
def State.starvationDue (s : State) : Bool := s.config.starvationLimit.toNat ≤ s.drain.timer.elapsed

/-- R97: the starvation timer expires. -/
def State.expireStarvation (s : State) : State :=
  let t := (s.setTimer (s.drain.timer.expire s.config.starvationLimit.toNat)).setEvent .starved
  if s.config.forceEnable then ((t.setPhase .forced).setBegun false).proceed else t

/-! ## WIPE's part (R71, R101, R166) -/

/-- R71, R124: the WIPED record. -/
def wipedRecord (r : BatchRecord) (f : DrainFields) (frameCount : BitVec 16) : CompletionRecord where
  seq := r.seq
  mask := memberMask r.members
  outcome := .wiped
  flags := r.flags.wiped
  intervals := r.intervals
  lines := f.lines
  frameCount := frameCount
  bytes := f.bytes
  signature := crc32cFinal f.crc

/-- R166.2: a DRAINING batch is stopped, and its WIPED record is posted into its reservation. -/
def State.stopDraining (s : State) : State :=
  match s.drainingHead with
  | some (r, f) => s.setLog { (s.log.post (wipedRecord r f s.drain.frameCount)) with reserved := false }
  | none => s

/-- R166, parts 2 to 7: every block's part in WIPE. -/
def State.wipeBlocks (s : State) : State :=
  let s1 := s.stopDraining
  let s2 := ((s1.setQueue []).setSlots []).setWindows (Vector.replicate 16 .free)
  let s3 := match s2.hpi.held with
    | some _ => s2.answerBeat true none
    | none => s2
  s3.setDrain
    { s3.drain with
      activity := .idle
      phase := if s3.drain.phase = .forced then .closed else s3.drain.phase
      timer := clearedTimer
      begun := false }

/-- R167: the counts of the WIPE response, taken just before its parts are made. -/
def State.wipeCounts (s : State) : Word :=
  wipeWord (s.queue.countP BatchRecord.isQueued) s.slots.length (allWindows.countP fun w => !(s.win w).isFree)

end Sys2Proof.Machine
end

