-- ==== Sys2Proof/Machine/Requests.lean ====
section
/-! DEFINITION. What each request kind does when the command path takes it (chapters 1, 3, 6, 7, 8 and 9): its refusals in the order of
Table 8-2, its effect on every block, and its reply. WIPE and RESYNC act on the response queue itself and stand in
Machine/Link.lean. -/

namespace Sys2Proof.Machine

/-! ## Forms (R153) -/

/-- R153: a kind sent as a short frame; a long frame is refused with LENGTH. -/
def shortForm (body : FrameBody) (s : State) (k : Byte → State × Reply) : State × Reply :=
  match body with
  | .short a => k a
  | .long _ => (s, .nak .length)

/-- R153: a kind sent as a long frame of one payload word. -/
def longForm1 (body : FrameBody) (s : State) (k : Word → State × Reply) : State × Reply :=
  match body with
  | .long [w0] => k w0
  | _ => (s, .nak .length)

/-- R153: a kind sent as a long frame of three payload words. -/
def longForm3 (body : FrameBody) (s : State) (k : Word → Word → Word → State × Reply) : State × Reply :=
  match body with
  | .long [w0, w1, w2] => k w0 w1 w2
  | _ => (s, .nak .length)

/-- R153: a kind sent as a long frame of five payload words. -/
def longForm5 (body : FrameBody) (s : State) (k : Word → Word → Word → Word → Word → State × Reply) : State × Reply :=
  match body with
  | .long [w0, w1, w2, w3, w4] => k w0 w1 w2 w3 w4
  | _ => (s, .nak .length)

/-- R8: the entry is not FREE and its owner is another channel. -/
def WindowEntry.ownedByOther (ch : Channel) (e : WindowEntry) : Bool :=
  match e.definition with
  | some d => d.owner != ch
  | none => false

/-- A short request whose argument names a window: an argument greater than 15 is refused with RANGE (R13, R20, R21, R62). -/
def windowForm (body : FrameBody) (s : State) (k : WindowNo → State × Reply) : State × Reply :=
  shortForm body s fun a =>
    match windowArgument a with
    | some w => k w
    | none => (s, .nak .range)

/-! ## Device (chapter 8) -/

/-- R158: IDENT. -/
def requestIdent (body : FrameBody) (s : State) : State × Reply := shortForm body s fun _ => (s, .data identWords)

/-- Table 8-10: the code of the drain phase. -/
def DrainPhase.code : DrainPhase → BitVec 4
  | .closed => 0
  | .quiet => 1
  | .forced => 2

/-- Table 8-10: the code of the drain activity. -/
def DrainActivity.code : DrainActivity → BitVec 4
  | .idle => 0
  | .waitLog => 1
  | .writing _ => 2
  | .held => 3

/-- Table 8-10: the code of the held beat. -/
def heldCode : Option HeldBeat → BitVec 8
  | none => 0x00
  | some h => match h.reason with
    | .stall => 0x01
    | .retire => 0x02

/-- R47: the sequence number of the DRAINING record, or 0. -/
def State.drainingSeq (s : State) : BitVec 16 :=
  match s.drainingHead with
  | some (r, _) => r.seq
  | none => 0

/-- R159 and Table 8-10: the five words of STATUS. -/
def State.statusWords (s : State) : List Word :=
  [0#5 ++ s.events ++ 0#5 ++ s.config.eventMask,
    s.drainingSeq ++ BitVec.ofNat 16 s.freeSlotCount,
    s.drain.frameCount ++ BitVec.ofNat 8 s.queue.length ++ BitVec.ofNat 8 s.log.records.length,
    s.chain,
    s.slc.headerErrors ++ s.drain.phase.code ++ s.drain.activity.code ++ heldCode s.hpi.held ++ 0#8]

/-- R159: STATUS. -/
def requestStatus (body : FrameBody) (s : State) : State × Reply := shortForm body s fun _ => (s, .data s.statusWords)

/-- R161: CONFIG_GET. -/
def requestConfigGet (body : FrameBody) (s : State) : State × Reply := shortForm body s fun _ => (s, .data s.config.toWords)

/-- R99: force enable cleared during phase FORCED. -/
def State.endForced (s : State) : State :=
  let t := s.setPhase .closed
  match s.drain.activity with
  | .waitLog => t.setActivity .idle
  | .writing l => if s.linesLeft l then t.flagHead BatchFlags.setSpanned else t
  | _ => t

/-- R99: the effect on the drain engine of force enable as the new record has it. -/
def State.applyForce (s : State) : State := if !s.config.forceEnable && s.drain.phase = .forced then s.endForced else s

/-- R96, R99: the effect on the starvation timer of a starvation limit that was `old`. -/
def State.applyStarvationLimit (s : State) (old : BitVec 16) : State :=
  if s.config.starvationLimit = 0#16 then s.setTimer clearedTimer
  else if s.config.starvationLimit ≠ old ∧ s.timerRuns ∧ s.starvationDue then
    s.expireStarvation
  else s

/-- R111: the effect on a held beat of a stall limit that was `old`. -/
def State.applyStallLimit (s : State) (old : BitVec 16) : State :=
  match s.hpi.held with
  | some h => if s.config.stallLimit ≠ old ∧ s.config.stallLimit.toNat ≤ h.elapsed then s.expireStall else s
  | none => s

/-- R162: a strict batch in the queue has more bytes than the new budget. -/
def State.strictAbove (s : State) (c : ConfigRecord) : Bool := s.queue.any fun r => r.strict && c.budget.toNat * 64 < r.bytes

/-- R163: the record replaced, with its effects on the drain engine and the held beat. DESIGN CHOICE (log entry 18): where the new
record makes both timers expire at once (R99, R111), the starvation timer expires first, and the stall limit of a beat still held
after it. -/
def State.applyConfig (s : State) (c : ConfigRecord) : State :=
  ((((s.setConfig c).applyForce).applyStarvationLimit s.config.starvationLimit).applyStallLimit s.config.stallLimit).arbitrate

/-- R162, R163: CONFIG_SET. -/
def requestConfigSet (body : FrameBody) (s : State) : State × Reply :=
  longForm3 body s fun w0 w1 w2 =>
    match configFields w0 w1 w2 with
    | none => (s, .nak .range)
    | some c => if s.strictAbove c then (s, .nak .oversize) else (s.applyConfig c, .ack)

/-! ## Link (chapter 7) -/

/-- R149: SET_LIMIT. -/
def requestSetLimit (ch : Channel) (body : FrameBody) (s : State) : State × Reply :=
  shortForm body s fun a =>
    if a.toNat < 8 ∨ 64 < a.toNat then (s, .nak .range)
    else (s.setSlc { s.slc with limits := s.slc.limits.set ch.val a.toNat ch.isLt }, .ack)

/-! ## Windows (chapter 1) -/

/-- R11: the span meets the span of a window that is not FREE. -/
def State.overlaps (s : State) (g : Geometry) : Bool :=
  allWindows.any fun w =>
    match (s.win w).definition with
    | some d => spansMeet g.span d.geometry.span
    | none => false

/-- R9 to R12: WIN_DEFINE. -/
def requestWinDefine (ch : Channel) (body : FrameBody) (s : State) : State × Reply :=
  longForm5 body s fun w0 w1 w2 w3 w4 =>
    match winDefineInRange ch (winDefineFields w0 w1 w2 w3 w4) with
    | none => (s, .nak .range)
    | some (w, d) =>
      if !d.geometry.aligned then (s, .nak .align)
      else if !(s.win w).isFree then (s, .nak .state)
      else if s.overlaps d.geometry then (s, .nak .overlap)
      else (s.setWin w (.idle d 0), .ack)

/-- R13: WIN_START. -/
def requestWinStart (ch : Channel) (body : FrameBody) (s : State) : State × Reply :=
  windowForm body s fun w =>
    if (s.win w).ownedByOther ch then (s, .nak .owner)
    else
      match s.win w with
      | .idle d e => (s.setWin w (.capturing d e 0 newGroup), .ack)
      | _ => (s, .nak .state)

/-- R20: WIN_RELEASE. -/
def requestWinRelease (ch : Channel) (body : FrameBody) (s : State) : State × Reply :=
  windowForm body s fun w =>
    if (s.win w).ownedByOther ch then (s, .nak .owner)
    else
      match s.win w with
      | .idle _ _ => (s.setWin w .free, .ack)
      | _ => (s, .nak .state)

/-- R21: WIN_QUERY. -/
def requestWinQuery (body : FrameBody) (s : State) : State × Reply :=
  windowForm body s fun w => (s, .data ((s.win w).toWords w))

/-! ## The commit queue (chapter 3) -/

/-- R14: the next value in cyclic order that is not in `used`; the number bounds the values passed over. -/
def advanceEpoch (used : List Epoch) : Nat → Epoch → Epoch
  | 0, e => e + 1
  | n + 1, e => if (e + 1) ∈ used then advanceEpoch used n (e + 1) else e + 1

/-- R14: the advance of a window's epoch counter from `e`, past the epochs of its groups in the queue. -/
def State.nextEpoch (s : State) (w : WindowNo) (e : Epoch) : Epoch :=
  advanceEpoch ((queueGroups s.queue w).map Prod.snd) 255 e

/-- R63: the part of WIN_ABORT before its retry: the open slots freed, the group dropped, the epoch advanced, a new group. -/
def State.abortGroup (s : State) (w : WindowNo) : State :=
  let t := s.freeSlots (Slot.openOf w)
  match t.win w with
  | .capturing d e held _ => t.setWin w (.capturing d (t.nextEpoch w e) held newGroup)
  | _ => t

/-- R63.6: a beat held under STALL is re-offered when a slot was freed. -/
def State.retryAfter (s : State) (freed : Nat) : State := if 0 < freed then s.retryHeld else s

/-- R62, R63: WIN_ABORT. -/
def requestWinAbort (ch : Channel) (body : FrameBody) (s : State) : State × Reply :=
  windowForm body s fun w =>
    if (s.win w).ownedByOther ch then (s, .nak .owner)
    else if !(s.win w).isCapturing then (s, .nak .state)
    else (((s.abortGroup w).retryAfter (s.freedCount (Slot.openOf w))).arbitrate, .ack)

/-- The windows a CLOSE mask names, in ascending window number. -/
def maskWindows (mask : BitVec 16) : List WindowNo := allWindows.filter fun w => mask.getLsbD w.val

/-- R50: the open groups of the windows, each with its member. -/
def State.closingGroups (s : State) (ws : List WindowNo) : List (Member × OpenGroup) :=
  ws.filterMap fun w => (s.win w).openGroup.map fun p => ({ window := w, epoch := p.1 }, p.2)

/-- R52: the sum of the byte counts of the open groups. -/
def groupBytes (gs : List (Member × OpenGroup)) : Nat := (gs.map fun p => p.2.bytes).sum

/-- The sum of the line counts of the open groups. -/
def groupLines (gs : List (Member × OpenGroup)) : Nat := (gs.map fun p => p.2.lines).sum

/-- R52: at least one of the windows has drain mode STRICT. -/
def State.anyStrict (s : State) (ws : List WindowNo) : Bool :=
  ws.any fun w =>
    match (s.win w).definition with
    | some d => d.mode = .strict
    | none => false

/-- R53.1: the record a CLOSE forms. -/
def State.closeRecord (s : State) (retire : Bool) (ws : List WindowNo) : BatchRecord where
  seq := s.nextSeq
  members := (s.closingGroups ws).map Prod.fst
  lines := groupLines (s.closingGroups ws)
  bytes := groupBytes (s.closingGroups ws)
  strict := s.anyStrict ws
  retireSet := if retire then ws else []
  state := .queued
  flags := closeFlags ((s.closingGroups ws).map Prod.snd)
  intervals := 0

/-- R16, R53.4: a member window after its CLOSE: a new group at the advanced epoch, or RETIRING on the new batch. -/
def closeWindow (retire : Bool) (seq : Sequence) (next : Epoch → Epoch) : WindowEntry → WindowEntry
  | .capturing d e held _ => if retire then .retiring d (next e) held seq else .capturing d (next e) held newGroup
  | x => x

/-- R53, parts 1 to 4: the record, the slots, the queue and the windows. -/
def State.closeBatch (s : State) (retire : Bool) (ws : List WindowNo) : State :=
  let r := s.closeRecord retire ws
  let t := ((s.setNextSeq (nextSequence s.nextSeq)).setSlots
    (changeSlots (fun x => x.status = .opened && ws.contains x.window) (fun x => { x with status := .queued }) s.slots)).setQueue
    (s.queue ++ [r])
  t.mapWindows fun w e => if ws.contains w then closeWindow retire r.seq (t.nextEpoch w) e else e

/-- R61, R96: the queue has become non-empty: the starvation timer is cleared and the start conditions are tested (R83). -/
def State.queueFilled (s : State) : State := ((s.setTimer clearedTimer).startBatches).arbitrate

/-- R51 to R54: CLOSE. -/
def requestClose (ch : Channel) (body : FrameBody) (s : State) : State × Reply :=
  longForm1 body s fun w0 =>
    match closeFields w0 with
    | none => (s, .nak .range)
    | some (retire, mask) =>
      let ws := maskWindows mask
      if ws.any fun w => (s.win w).ownedByOther ch then (s, .nak .owner)
      else if ws.any fun w => !(s.win w).isCapturing then (s, .nak .state)
      else if Config.queueCapacity ≤ s.queue.length then (s, .nak .full)
      else if s.anyStrict ws && decide (s.config.budget.toNat * 64 < groupBytes (s.closingGroups ws)) then (s, .nak .oversize)
      else
        let t := s.closeBatch retire ws
        (if s.queue = [] then t.queueFilled else t, .data [0#16 ++ s.nextSeq])

/-- R67: the CANCELLED record. -/
def cancelledRecord (r : BatchRecord) (frameCount : BitVec 16) : CompletionRecord where
  seq := r.seq
  mask := memberMask r.members
  outcome := .cancelled
  flags := r.flags.cancelled
  intervals := 0
  lines := r.lines
  frameCount := frameCount
  bytes := r.bytes
  signature := 0

/-- R18: the retire notices of a CANCEL: each member RETIRING on the batch becomes IDLE, or takes the sequence number of the last
of its batches still in the queue. -/
def State.cancelRetire (s : State) (ms : List Member) (q : Sequence) : State :=
  s.mapWindows fun w e =>
    match e with
    | .retiring d ep held rs =>
      if (ms.any fun m => m.window = w) && rs = q then
        match (queueGroups s.queue w).getLast? with
        | some (q', _) => .retiring d ep held q'
        | none => .idle d ep
      else e
    | _ => e

/-- R66, parts 1 to 4: the record leaves the queue, its slots are freed, its CANCELLED record is posted and its retire notices are
sent. -/
def State.removeBatch (s : State) (r : BatchRecord) : State :=
  let s1 := (s.setQueue (s.queue.eraseP fun x => x.seq = r.seq)).freeSlots (Slot.inBatch r.members)
  (s1.setLog (s1.log.post (cancelledRecord r s.drain.frameCount))).cancelRetire r.members r.seq

/-- R66, parts 1 to 7, and the test of the start conditions when a new batch stands at the head (R83). -/
def State.cancelBatch (s : State) (r : BatchRecord) : State :=
  let freed := s.freedCount (Slot.inBatch r.members)
  let t := ((s.removeBatch r).queueEmptied).afterFreeing freed
  (if s.queue.head? = some r then t.startBatches else t).arbitrate

/-- R65, R66: CANCEL. -/
def requestCancel (body : FrameBody) (s : State) : State × Reply :=
  longForm1 body s fun w0 =>
    match cancelField w0 with
    | none => (s, .nak .range)
    | some q =>
      if s.log.freeEntries = 0 then (s, .nak .full)
      else
        match s.queue.find? (·.seq = q) with
        | some r => if r.isDraining then (s, .nak .busy) else (s.cancelBatch r, .ack)
        | none => (s, .nak .notFound)

/-! ## The completion log (chapter 6) -/

/-- R125: the number of records a LOG_READ returns. -/
def State.logReadCount (s : State) (ch : Channel) (count : Nat) : Nat :=
  min count (min (((s.slc.limits[ch.val]'ch.isLt) - 1) / 5) s.log.records.length)

/-- R125, R84: the records leave the log, and an engine that waits for an entry tests its start conditions again. -/
def State.takeRecords (s : State) (n : Nat) : State :=
  let t := s.setLog { s.log with records := s.log.records.drop n }
  match s.drain.activity with
  | .waitLog => if 0 < n then t.startBatches.arbitrate else t
  | _ => t

/-- R125: LOG_READ. -/
def requestLogRead (ch : Channel) (body : FrameBody) (s : State) : State × Reply :=
  shortForm body s fun a =>
    if a.toNat = 0 ∨ 12 < a.toNat then (s, .nak .range)
    else
      let n := s.logReadCount ch a.toNat
      (s.takeRecords n, .data (BitVec.ofNat 32 n :: (s.log.records.take n).flatMap CompletionRecord.toWords))

/-- R132: SIG_RESET. -/
def requestSigReset (body : FrameBody) (s : State) : State × Reply := shortForm body s fun _ => (s.setChain 0, .ack)

/-! ## Events (chapter 9) -/

/-- R173: EVENT_ACK. -/
def requestEventAck (body : FrameBody) (s : State) : State × Reply :=
  longForm1 body s fun w0 =>
    match eventAckField w0 with
    | none => (s, .nak .range)
    | some named => (s.setEvents (EventSet.without s.events named), .ack)

end Sys2Proof.Machine
end

