-- ==== Sys2Proof/Machine/Link.lean ====
section
/-! DEFINITION. The setup link (chapter 7): places and the command path, WIPE's taking and effect on the link, RESYNC, the receive
assembler and the transmitter. -/

namespace Sys2Proof.Machine

/-! ## Places of the response queue (R143 to R145) -/

/-- The request of the first AWAITING place. -/
def firstAwaiting : List Place → Option Request
  | [] => none
  | .awaiting q :: _ => some q
  | .filled _ :: rest => firstAwaiting rest

/-- R144: the first AWAITING place becomes FILLED. -/
def fillFirst (r : Response) : List Place → List Place
  | [] => []
  | .awaiting _ :: rest => .filled r :: rest
  | .filled x :: rest => .filled x :: fillFirst r rest

/-- R150.1: the places ahead of the first AWAITING one are emptied. -/
def dropFilled : List Place → List Place
  | [] => []
  | .awaiting q :: rest => .awaiting q :: rest
  | .filled _ :: rest => dropFilled rest

/-- R144: the response of the request taken is placed in its place. -/
def State.fill (s : State) (ch : Channel) (tag : Tag) (reply : Reply) : State :=
  s.setResponses (fillFirst { ch := ch, tag := tag, reply := reply } s.slc.responses)

/-! ## WIPE and RESYNC (R150, R165, R166) -/

/-- R165: the drain engine has a line in progress. -/
def State.lineInProgress (s : State) : Option LineInProgress :=
  match s.drain.activity with
  | .writing l => some l
  | _ => none

/-- R166.8: the WIPE's place, the first AWAITING one, is filled with its DATA response. -/
def State.fillWipe (s : State) (counts : Word) : State :=
  match firstAwaiting s.slc.responses with
  | some (.frame f) => s.fill f.ch f.tag (.data [counts])
  | _ => s

/-- R166: the effect of WIPE: every block's part, and the response. -/
def State.makeWipeEffect (s : State) : State :=
  let t := s.wipeBlocks.fillWipe s.wipeCounts
  t.setSlc { t.slc with wipeTaken := false }

/-- R165: WIPE taken by the command path: its effect at once, or at the end of the line in progress. -/
def State.takeWipe (s : State) (f : Frame) : State :=
  match f.body with
  | .long _ => s.fill f.ch f.tag (.nak .length)
  | .short _ =>
    match s.lineInProgress with
    | some _ => s.setSlc { s.slc with wipeTaken := true }
    | none => s.makeWipeEffect

/-- R150: RESYNC: the places ahead of its own emptied, the header-error count cleared, its own place filled with ACK, and fill
until the end of the transfer period in progress. DESIGN CHOICE (log entry 19): the assembler stays as it is. It is at FRAME_START
when RESYNC's frame has just completed; a RESYNC that waited behind a WIPE may find it elsewhere. -/
def State.takeResync (s : State) (f : Frame) : State :=
  match f.body with
  | .long _ => s.fill f.ch f.tag (.nak .length)
  | .short _ =>
    s.setSlc
      { s.slc with
        responses := fillFirst { ch := f.ch, tag := f.tag, reply := .ack } (dropFilled s.slc.responses)
        txPos := 0
        txFill := s.slc.assembler != .idle
        headerErrors := 0 }

/-! ## The command path (R144, R153 to R155) -/

/-- Table 8-1: the seventeen request kinds. -/
inductive Kind where
  | ident
  | status
  | configGet
  | configSet
  | wipe
  | setLimit
  | resync
  | winDefine
  | winStart
  | winRelease
  | winQuery
  | winAbort
  | close
  | cancel
  | logRead
  | sigReset
  | eventAck
deriving DecidableEq, Repr

/-- Table 8-1: the code of a kind. -/
def Kind.code : Kind → Byte
  | .ident => 0x01
  | .status => 0x02
  | .configGet => 0x03
  | .configSet => 0x04
  | .wipe => 0x05
  | .setLimit => 0x08
  | .resync => 0x09
  | .winDefine => 0x10
  | .winStart => 0x11
  | .winRelease => 0x12
  | .winQuery => 0x13
  | .winAbort => 0x14
  | .close => 0x20
  | .cancel => 0x21
  | .logRead => 0x30
  | .sigReset => 0x31
  | .eventAck => 0x38

/-- The kinds, in Table 8-1's order. -/
def allKinds : List Kind :=
  [.ident, .status, .configGet, .configSet, .wipe, .setLimit, .resync, .winDefine, .winStart, .winRelease, .winQuery, .winAbort,
   .close, .cancel, .logRead, .sigReset, .eventAck]

/-- R154: the kind of a code, or none when Table 8-1 does not list it. -/
def kindOfCode (b : Byte) : Option Kind := allKinds.find? fun k => k.code = b

/-- A reply and the state it goes with, put into the request's place. -/
def fillReply (ch : Channel) (tag : Tag) (p : State × Reply) : State := p.1.fill ch tag p.2

/-- R144: the command path executes a frame of a known kind. -/
def State.execute (s : State) (k : Kind) (f : Frame) : State :=
  match k with
  | .ident => fillReply f.ch f.tag (requestIdent f.body s)
  | .status => fillReply f.ch f.tag (requestStatus f.body s)
  | .configGet => fillReply f.ch f.tag (requestConfigGet f.body s)
  | .configSet => fillReply f.ch f.tag (requestConfigSet f.body s)
  | .wipe => s.takeWipe f
  | .setLimit => fillReply f.ch f.tag (requestSetLimit f.ch f.body s)
  | .resync => s.takeResync f
  | .winDefine => fillReply f.ch f.tag (requestWinDefine f.ch f.body s)
  | .winStart => fillReply f.ch f.tag (requestWinStart f.ch f.body s)
  | .winRelease => fillReply f.ch f.tag (requestWinRelease f.ch f.body s)
  | .winQuery => fillReply f.ch f.tag (requestWinQuery f.body s)
  | .winAbort => fillReply f.ch f.tag (requestWinAbort f.ch f.body s)
  | .close => fillReply f.ch f.tag (requestClose f.ch f.body s)
  | .cancel => fillReply f.ch f.tag (requestCancel f.body s)
  | .logRead => fillReply f.ch f.tag (requestLogRead f.ch f.body s)
  | .sigReset => fillReply f.ch f.tag (requestSigReset f.body s)
  | .eventAck => fillReply f.ch f.tag (requestEventAck f.body s)

/-- R144: the command path takes one request; a frame of an unknown kind is refused with UNKNOWN (R154), and a frame the link
refused is answered with the NAK so named. -/
def State.takeRequest (s : State) : Request → State
  | .refused ch tag why => s.fill ch tag (.nak why)
  | .frame f =>
    match kindOfCode f.kind with
    | some k => s.execute k f
    | none => s.fill f.ch f.tag (.nak .unknown)

/-- R144: the command path takes the AWAITING requests in the order of their places, until none is left or a WIPE waits for a
line to end. The number bounds the requests taken. -/
def State.runCommands : Nat → State → State
  | 0, s => s
  | n + 1, s =>
    if s.slc.wipeTaken then s
    else
      match firstAwaiting s.slc.responses with
      | some q => State.runCommands n (s.takeRequest q)
      | none => s

/-- The command path, run for as long as every place of the queue may need. -/
def State.commandPath (s : State) : State := State.runCommands s.slc.responses.length s

/-- R143: a complete frame claims a place at the tail and is passed to the command path, or, when all eight places are taken, is
discarded with LINK_OVERRUN. -/
def State.accept (s : State) (q : Request) : State :=
  if Config.responsePlaces ≤ s.slc.responses.length then s.setEvent .linkOverrun
  else (s.setResponses (s.slc.responses ++ [.awaiting q])).commandPath

/-! ## The receive assembler (R138 to R142) -/

/-- R139: a header check failure. The assembler ignores the rest of the transfer period in progress. -/
def State.failHeader (s : State) : State :=
  (s.setSlc
    { s.slc with
      assembler := if s.slc.assembler = .idle then .idle else .ignore
      headerErrors := saturatingSucc s.slc.headerErrors }).setEvent .linkError

/-- R140: the assembler's rest of a transfer period in progress is ignored. -/
def State.ignoreRest (s : State) : State := s.setAssembler (if s.slc.assembler = .idle then .idle else .ignore)

/-- R140, R141: the assembler after the frame it was assembling is complete: FRAME_START. Where no frame was being assembled it stays
(log entry 6). -/
def Assembler.afterFrame : Assembler → Assembler
  | .header _ | .payload _ _ => .frameStart
  | .idle => .idle
  | .frameStart => .frameStart
  | .ignore => .ignore

/-- R140, R141: the frame being assembled has ended. -/
def State.endFrame (s : State) : State := s.setAssembler s.slc.assembler.afterFrame

/-- R138 to R140: a complete header of bytes b0, b1, b2 and check b3. -/
def State.takeHeader (s : State) (b0 b1 b2 b3 : Byte) : State :=
  if crc8 [b0, b1, b2] ≠ b3 then s.failHeader
  else if longFlag b1 then
    if b2.toNat = 0 ∨ 64 < b2.toNat then s.ignoreRest.accept (.refused (channelOf b1) (tagOf b1) .length)
    else
      s.setAssembler
        (.payload { kind := b0, ch := channelOf b1, tag := tagOf b1, reservedBit := reservedFlag b1, words := b2.toNat } [])
  else if reservedFlag b1 then (s.setAssembler .frameStart).accept (.refused (channelOf b1) (tagOf b1) .length)
  else (s.setAssembler .frameStart).accept (.frame { kind := b0, ch := channelOf b1, tag := tagOf b1, body := .short b2 })

/-- R141: the request a complete long frame makes: its payload check is compared unless its reserved bit is set (R140). -/
def longRequest (h : LongHeader) (bytes : List Byte) : Request :=
  if h.reservedBit then .refused h.ch h.tag .length
  else if bytes = withPayloadCheck (bytes.take (4 * h.words)) then
    .frame { kind := h.kind, ch := h.ch, tag := h.tag, body := .long (wordsOf (bytes.take (4 * h.words))) }
  else .refused h.ch h.tag .check

/-- R138: the assembler takes one received byte. -/
def State.receiveByte (s : State) (b : Byte) : State :=
  match s.slc.assembler with
  | .idle => s
  | .ignore => s
  | .frameStart => if b = 0xFF#8 then s else s.setAssembler (.header [b])
  | .header got =>
    match got with
    | [b0, b1, b2] => s.takeHeader b0 b1 b2 b
    | _ => s.setAssembler (.header (got ++ [b]))
  | .payload h got =>
    if got.length + 1 < 4 * h.words + 2 then s.setAssembler (.payload h (got ++ [b]))
    else (s.setAssembler .frameStart).accept (longRequest h (got ++ [b]))

/-! ## A WIPE taken together with a line end (R73) -/

/-- R73, R165: the command has the command path take a WIPE: it is a short WIPE frame, or the byte that completes one with a good header,
and it finds a place free and no WIPE waiting (R143, R144). -/
def State.bringsWipe (s : State) (i : Instr) : Bool :=
  decide (s.slc.responses.length < Config.responsePlaces) && !s.slc.wipeTaken &&
    match i with
    | .wipe _ _ (.short _) => true
    | .byteReceived b =>
      match s.slc.assembler with
      | .header [b0, b1, b2] => b0 = Kind.code .wipe && crc8 [b0, b1, b2] = b && !longFlag b1 && !reservedFlag b1
      | _ => false
    | _ => false

/-- R73: a WIPE is the next command of the queue: it is taken together with the command at hand, after it. DESIGN CHOICE (log entry 20):
events are taken together when they stand next to each other in the queue of commands. -/
def State.wipeNext (s : State) : Bool := s.pending.head?.any s.bringsWipe

/-! ## The transmitter (R145 to R147) -/

/-- R146: the place at the head leaves the queue, its frame sent whole; `last` is the last byte driven. -/
def State.popResponse (s : State) (last : Byte) : State :=
  s.setSlc { s.slc with responses := s.slc.responses.tail, txPos := 0, ldo := last }

/-- R146: one byte time on LDO: the next byte of the frame being sent, the first byte of a FILLED head, or fill. -/
def State.sendByte (s : State) : State :=
  match s.slc.assembler with
  | .idle => s
  | _ =>
    match s.slc.responses, s.slc.txFill with
    | .filled r :: _, false =>
      let b := r.bytes.getD s.slc.txPos 0xFF#8
      if s.slc.txPos + 1 < r.bytes.length then s.setSlc { s.slc with txPos := s.slc.txPos + 1, ldo := b } else s.popResponse b
    | _, _ => s.setSlc { s.slc with ldo := 0xFF#8 }

/-- R134, R146: the rest of the head's FILLED frame is sent within the transfer period in progress; between transfer periods nothing is
sent. DESIGN CHOICE (log entry 6): the byte times it takes are one command. -/
def State.sendRest (s : State) : State :=
  match s.slc.assembler with
  | .idle => s
  | _ =>
    match s.slc.responses, s.slc.txFill with
    | .filled r :: _, false => s.popResponse (r.bytes.getLastD 0xFF#8)
    | _, _ => s

end Sys2Proof.Machine
end

