-- ==== Sys2Proof/Machine/DrainEvents.lean ====
section
/-! DEFINITION. The family of the drain engine's events: QUIET_START, QUIET_END, STARVATION_TIMER_EXPIRY, DRAIN_START, MEMORY_BEAT_ANSWER
and WIPE_EFFECT, and the tick of TCLK. -/

namespace Sys2Proof.Machine

/-! ## The QUIET line (R76, R90, R91) -/

/-- R91: a quiet start. -/
def State.quietStart (s : State) : State :=
  (((s.setQuiet true).setDrain
    { s.drain with
      phase := .quiet
      remainder := s.config.budget.toNat * 64
      frameCount := s.drain.frameCount + 1
      begun := false
      timer := clearedTimer }).proceed).arbitrate

/-- QUIET_START: QUIET rises; with QUIET already high there is no rising edge. While RESETN is low the drain engine ignores the line,
whose level is the outside world's (R76). -/
def execQuietStart (s : State) : Host.Outcome State Fault Refusal :=
  .next (if s.resetn then (if s.quiet then s else s.quietStart) else s.setQuiet true)

/-- R90: the effect of a quiet end taken in phase QUIET on the activity. -/
def State.quietEndActivity (s : State) : State :=
  match s.drain.activity with
  | .waitLog => s.setActivity .idle
  | .writing l => if s.linesLeft l then s.flagHead BatchFlags.setSpanned else s
  | _ => s

/-- R90: a quiet end. In phase CLOSED it changes only the level (R76). -/
def State.quietEnd (s : State) : State :=
  let t := s.setQuiet false
  if s.drain.phase = .quiet then (t.setPhase .closed).quietEndActivity else t

/-- QUIET_END: QUIET falls; with QUIET already low there is no falling edge (R76). -/
def execQuietEnd (s : State) : Host.Outcome State Fault Refusal :=
  .next (if s.resetn then (if s.quiet then s.quietEnd else s) else s.setQuiet false)

/-! ## Timers and starts (R83, R97) -/

/-- STARVATION_TIMER_EXPIRY: a timer that is RUNNING reaches the starvation limit; a timer that does not run does not expire (R96).
DESIGN CHOICE (log entry 4): the command is the expiry, whatever time has elapsed. -/
def execStarvationTimerExpiry (s : State) : Host.Outcome State Fault Refusal :=
  whenReleased (fun s => if s.timerRuns then s.expireStarvation.arbitrate else s) s

/-- DRAIN_START: the start conditions are tested, and the head is started when they hold (R83 to R85). -/
def execDrainStart (s : State) : Host.Outcome State Fault Refusal :=
  whenReleased (fun s => if s.startable then s.startBatches.arbitrate else s) s

/-! ## WIPE's effect (R165, R166) -/

/-- The effect of a WIPE that waited for a line to end, and the requests behind it (R144). -/
def State.finishWipe (s : State) : State := s.makeWipeEffect.commandPath

/-- WIPE_EFFECT: a WIPE taken by the command path has its effect once no line is in progress (R165). -/
def execWipeEffect (s : State) : Host.Outcome State Fault Refusal :=
  whenReleased (fun s => if s.slc.wipeTaken && s.lineInProgress.isNone then s.finishWipe.arbitrate else s) s

/-! ## Memory's answer (R87 to R89, R114, R115) -/

/-- R89: an ERROR answer to a drain beat sets MEM_ERROR on the batch and as an event. -/
def State.noteDrainError (s : State) (err : Bool) : State :=
  if err then (s.flagHead BatchFlags.setMemError).setEvent .memError else s

/-- R87.4, R88, R116, R165: the end of the line in progress: its own effects, the issue of a beat that waited at the interlock, and
then the effect of a WIPE that waited for it, or what R88 gives. -/
def State.lineEnd (s : State) (l : LineInProgress) : State :=
  let t := (s.endLine l).tryIssue
  if t.slc.wipeTaken then (t.setActivity .idle).finishWipe else t.afterLine t.wipeNext

/-- R87.3, R87.4: the run on the port is complete: the line's next run is requested, or the line ends. -/
def State.runDone (s : State) : State :=
  match s.drain.activity with
  | .writing l =>
    match l.runs with
    | r :: rest => (s.setActivity (.writing { l with runs := rest })).setMpa { s.mpa with drainReq := some r }
    | [] => s.lineEnd l
  | _ => s

/-- R114: memory answers the beat on the port. -/
def State.memoryAnswer (s : State) (err : Bool) (rd : Word) : State :=
  match s.mpa.port with
  | none => s
  | some (.drainRun r n) =>
    let t := s.noteDrainError err
    if n + 1 < r.beats.length then t.setMpa { t.mpa with port := some (.drainRun r (n + 1)) }
    else ((t.setMpa { t.mpa with port := none }).runDone).arbitrate
  | some (.hostRead _) | some (.hostWrite _ _ _) => ((s.setMpa { s.mpa with port := none }).answerFromMemory err rd).arbitrate

/-- MEMORY_BEAT_ANSWER: MP_BRDY with MP_ERR and MP_RD. -/
def execMemoryBeatAnswer (err : Bool) (rd : Word) (s : State) : Host.Outcome State Fault Refusal :=
  whenReleased (fun s => s.memoryAnswer err rd) s

/-! ## The tick of TCLK (R96, R108; log entry 4) -/

/-- R108, R111: one microsecond for a held beat: its timer rises by one, and at the stall limit the limit expires. -/
def State.tickStall (s : State) : State :=
  match s.hpi.held with
  | some h =>
    let t := s.setBeat (.held { h with elapsed := h.elapsed + 1 })
    if s.config.stallLimit.toNat ≤ h.elapsed + 1 then t.expireStall else t
  | none => s

/-- R96: one more microsecond of TCLK on the timer's account; the thousandth completes a millisecond. -/
def StarvationTimer.tick (t : StarvationTimer) : StarvationTimer :=
  if t.micros + 1 < 1000 then { t with micros := t.micros + 1 } else { t with elapsed := t.elapsed + 1, micros := 0 }

/-- R96: the starvation timer counts one microsecond, unless its elapsed time is at the limit already. -/
def State.countStarvation (s : State) : State := if s.starvationDue then s else s.setTimer s.drain.timer.tick

/-- R96, R97, R99: one microsecond for the starvation timer: while it is RUNNING it counts, and at the starvation limit it expires. -/
def State.tickStarvation (s : State) : State :=
  if s.timerRuns then
    if s.countStarvation.starvationDue then s.countStarvation.expireStarvation.arbitrate else s.countStarvation
  else s

/-- One period of TCLK, 1 µs (Table I-4), with no command taken: both timers count. -/
def State.tick (s : State) : State := if s.resetn then s.tickStall.tickStarvation else s

end Sys2Proof.Machine
end

