-- ==== Sys2Proof/Machine/HostEvents.lean ====
section
/-! DEFINITION. The family of the host port: HOST_TRANSACTION_REQUEST, HOST_WRITE_BEAT, HOST_READ_BEAT, PASS_WRITE_ISSUE,
HELD_BEAT_RETRY, HELD_BEAT_RELEASE and STALL_LIMIT_EXPIRY. -/

namespace Sys2Proof.Machine

/-- R103: the HPI takes a request when no transaction is in progress; otherwise the request waits on the host port. -/
def State.takeRequestFromHost (s : State) (r : HostRequest) : State :=
  match s.hpi.txn with
  | none => s.setHpi { s.hpi with txn := some r.begin }
  | some _ => s.setHpi { s.hpi with waiting := s.hpi.waiting ++ [r] }

/-- HOST_TRANSACTION_REQUEST. -/
def execHostTransactionRequest (adr : BitVec 22) (wr : Bool) (cnt : BitVec 4) (s : State) : Host.Outcome State Fault Refusal :=
  whenReleased (fun s => s.takeRequestFromHost { adr := adr, wr := wr, cnt := cnt }) s

/-- R104: the transaction whose next beat the HPI may take: one of the given direction whose beat before has been answered. -/
def Hpi.nextBeat (h : Hpi) (wr : Bool) : Option HostTransaction :=
  match h.txn with
  | some t => if t.req.wr = wr ∧ t.beat = .waiting then some t else none
  | none => none

/-- The answer of the beat before is withdrawn as the next beat is taken. -/
def State.clearAnswer (s : State) : State := s.setHpi { s.hpi with answer := none }

/-- R104, R106: the HPI takes a write beat; a beat that is not the next of a write transaction is not taken. -/
def State.takeWriteBeat (s : State) (wd : Word) (be : BitVec 4) : State :=
  match s.hpi.nextBeat true with
  | some t => (s.clearAnswer.routeWrite t.addr wd be).arbitrate
  | none => s

/-- HOST_WRITE_BEAT. -/
def execHostWriteBeat (wd : Word) (be : BitVec 4) (s : State) : Host.Outcome State Fault Refusal :=
  whenReleased (fun s => s.takeWriteBeat wd be) s

/-- R104, R113: the HPI takes a read beat; a beat that is not the next of a read transaction is not taken. -/
def State.takeReadBeat (s : State) : State :=
  match s.hpi.nextBeat false with
  | some t => (s.clearAnswer.routeRead t.addr).arbitrate
  | none => s

/-- HOST_READ_BEAT. -/
def execHostReadBeat (s : State) : Host.Outcome State Fault Refusal := whenReleased State.takeReadBeat s

/-- PASS_WRITE_ISSUE: a PASS beat at the interlock is issued when the interlock does not name its line (R107, R116). -/
def execPassWriteIssue (s : State) : Host.Outcome State Fault Refusal := whenReleased (fun s => s.tryIssue.arbitrate) s

/-- HELD_BEAT_RETRY: the held STALL beat is re-offered (R46). DESIGN CHOICE (log entry 17): as a command of its own it re-offers the
beat whether or not slots have just been freed, the event to which R46 ties the retry. -/
def execHeldBeatRetry (s : State) : Host.Outcome State Fault Refusal := whenReleased (fun s => s.retryHeld.arbitrate) s

/-- HELD_BEAT_RELEASE: a held beat whose window is IDLE passes to memory (R110). -/
def execHeldBeatRelease (s : State) : Host.Outcome State Fault Refusal := whenReleased (fun s => s.releaseHeld.arbitrate) s

/-- STALL_LIMIT_EXPIRY: the stall timer of the held beat reaches the stall limit (R111). DESIGN CHOICE (log entry 4): the command is
the expiry, whatever time has elapsed. -/
def execStallLimitExpiry (s : State) : Host.Outcome State Fault Refusal := whenReleased State.expireStall s

end Sys2Proof.Machine
end

