-- ==== Sys2Proof/Machine/LinkEvents.lean ====
section
/-! DEFINITION. The family of the setup link: the transfer periods, the bytes in both directions, the frames the link refuses, and the
seventeen request kinds of Table 8-1.

A request command is a complete frame of that kind handed to R143 (log entry 6); what the request does stands in
Machine/Requests.lean and Machine/Link.lean. BYTE_RECEIVED reaches the same operation byte by byte. -/

namespace Sys2Proof.Machine

/-! ## Transfer periods and bytes (R134, R138, R142, R146, R147) -/

/-- R134: a falling edge of LSEL begins a transfer period, with the assembler at FRAME_START. -/
def State.startPeriod (s : State) : State :=
  (s.setLsel false).setSlc { s.slc with assembler := .frameStart, txPos := 0, txFill := false }

/-- TRANSFER_PERIOD_START: with LSEL already low there is no falling edge. While RESETN is low the SLC ignores the line, whose level
is the outside world's (R134). -/
def execTransferPeriodStart (s : State) : Host.Outcome State Fault Refusal :=
  .next (if s.resetn then (if s.lsel then s.startPeriod else s) else s.setLsel false)

/-- R142: the frame being assembled is discarded with LINK_ERROR. -/
def State.discardFrame (s : State) : State :=
  match s.slc.assembler with
  | .header _ | .payload _ _ => s.setEvent .linkError
  | _ => s

/-- R142, R147: a rising edge of LSEL ends the transfer period; a response being sent stays at the head, to be sent again from its
first byte, and LDO is driven high (R134). -/
def State.endPeriod (s : State) : State :=
  let t := (s.setLsel true).discardFrame
  t.setSlc { t.slc with assembler := .idle, txPos := 0, txFill := false, ldo := 0xFF#8 }

/-- TRANSFER_PERIOD_END: with LSEL already high there is no rising edge. -/
def execTransferPeriodEnd (s : State) : Host.Outcome State Fault Refusal :=
  .next (if s.resetn then (if s.lsel then s else s.endPeriod) else s.setLsel true)

/-- BYTE_RECEIVED (R138). -/
def execByteReceived (b : Byte) (s : State) : Host.Outcome State Fault Refusal := whenReleased (fun s => s.receiveByte b) s

/-- BYTE_SENT (R146). -/
def execByteSent (s : State) : Host.Outcome State Fault Refusal := whenReleased State.sendByte s

/-- RESPONSE_SENT (R146). -/
def execResponseSent (s : State) : Host.Outcome State Fault Refusal := whenReleased State.sendRest s

/-! ## Frames the link refuses (R139 to R143) -/

/-- HEADER_CHECK_FAILURE (R139). -/
def execHeaderCheckFailure (s : State) : Host.Outcome State Fault Refusal := whenReleased State.failHeader s

/-- R140: the assembler after a fault of form: IGNORE for a word count of 0 or greater than 64, FRAME_START for the reserved bit. -/
def State.afterFormFault (s : State) : FormFault → State
  | .wordCount => s.ignoreRest
  | .reservedBit => s.endFrame

/-- FRAME_FORM_REFUSAL (R140). -/
def execFrameFormRefusal (ch : Channel) (tag : Tag) (fault : FormFault) (s : State) : Host.Outcome State Fault Refusal :=
  whenReleased (fun s => (s.afterFormFault fault).accept (.refused ch tag .length)) s

/-- PAYLOAD_CHECK_FAILURE (R141): the assembler returns to FRAME_START. -/
def execPayloadCheckFailure (ch : Channel) (tag : Tag) (s : State) : Host.Outcome State Fault Refusal :=
  whenReleased (fun s => s.endFrame.accept (.refused ch tag .check)) s

/-- LINK_OVERRUN (R143): with a place free there is no overrun. -/
def execLinkOverrun (s : State) : Host.Outcome State Fault Refusal :=
  whenReleased (fun s => if Config.responsePlaces ≤ s.slc.responses.length then s.setEvent .linkOverrun else s) s

/-- UNKNOWN_KIND (R154). -/
def execUnknownKind (kind : Byte) (ch : Channel) (tag : Tag) (body : FrameBody) (s : State) : Host.Outcome State Fault Refusal :=
  whenReleased (fun s => s.accept (.frame { kind := kind, ch := ch, tag := tag, body := body })) s

/-! ## The request kinds (Table 8-1) -/

/-- IDENT (R158). -/
def execIdent (ch : Channel) (tag : Tag) (body : FrameBody) (s : State) : Host.Outcome State Fault Refusal :=
  whenReleased (fun s => s.accept (.frame { kind := Kind.code .ident, ch := ch, tag := tag, body := body })) s

/-- STATUS (R159). -/
def execStatus (ch : Channel) (tag : Tag) (body : FrameBody) (s : State) : Host.Outcome State Fault Refusal :=
  whenReleased (fun s => s.accept (.frame { kind := Kind.code .status, ch := ch, tag := tag, body := body })) s

/-- CONFIG_GET (R161). -/
def execConfigGet (ch : Channel) (tag : Tag) (body : FrameBody) (s : State) : Host.Outcome State Fault Refusal :=
  whenReleased (fun s => s.accept (.frame { kind := Kind.code .configGet, ch := ch, tag := tag, body := body })) s

/-- CONFIG_SET (R162). -/
def execConfigSet (ch : Channel) (tag : Tag) (body : FrameBody) (s : State) : Host.Outcome State Fault Refusal :=
  whenReleased (fun s => s.accept (.frame { kind := Kind.code .configSet, ch := ch, tag := tag, body := body })) s

/-- WIPE (R165). -/
def execWipe (ch : Channel) (tag : Tag) (body : FrameBody) (s : State) : Host.Outcome State Fault Refusal :=
  whenReleased (fun s => s.accept (.frame { kind := Kind.code .wipe, ch := ch, tag := tag, body := body })) s

/-- SET_LIMIT (R149). -/
def execSetLimit (ch : Channel) (tag : Tag) (body : FrameBody) (s : State) : Host.Outcome State Fault Refusal :=
  whenReleased (fun s => s.accept (.frame { kind := Kind.code .setLimit, ch := ch, tag := tag, body := body })) s

/-- RESYNC (R150). -/
def execResync (ch : Channel) (tag : Tag) (body : FrameBody) (s : State) : Host.Outcome State Fault Refusal :=
  whenReleased (fun s => s.accept (.frame { kind := Kind.code .resync, ch := ch, tag := tag, body := body })) s

/-- WIN_DEFINE (R12). -/
def execWinDefine (ch : Channel) (tag : Tag) (body : FrameBody) (s : State) : Host.Outcome State Fault Refusal :=
  whenReleased (fun s => s.accept (.frame { kind := Kind.code .winDefine, ch := ch, tag := tag, body := body })) s

/-- WIN_START (R13). -/
def execWinStart (ch : Channel) (tag : Tag) (body : FrameBody) (s : State) : Host.Outcome State Fault Refusal :=
  whenReleased (fun s => s.accept (.frame { kind := Kind.code .winStart, ch := ch, tag := tag, body := body })) s

/-- WIN_RELEASE (R20). -/
def execWinRelease (ch : Channel) (tag : Tag) (body : FrameBody) (s : State) : Host.Outcome State Fault Refusal :=
  whenReleased (fun s => s.accept (.frame { kind := Kind.code .winRelease, ch := ch, tag := tag, body := body })) s

/-- WIN_QUERY (R21). -/
def execWinQuery (ch : Channel) (tag : Tag) (body : FrameBody) (s : State) : Host.Outcome State Fault Refusal :=
  whenReleased (fun s => s.accept (.frame { kind := Kind.code .winQuery, ch := ch, tag := tag, body := body })) s

/-- WIN_ABORT (R63). -/
def execWinAbort (ch : Channel) (tag : Tag) (body : FrameBody) (s : State) : Host.Outcome State Fault Refusal :=
  whenReleased (fun s => s.accept (.frame { kind := Kind.code .winAbort, ch := ch, tag := tag, body := body })) s

/-- CLOSE (R53). -/
def execClose (ch : Channel) (tag : Tag) (body : FrameBody) (s : State) : Host.Outcome State Fault Refusal :=
  whenReleased (fun s => s.accept (.frame { kind := Kind.code .close, ch := ch, tag := tag, body := body })) s

/-- CANCEL (R66). -/
def execCancel (ch : Channel) (tag : Tag) (body : FrameBody) (s : State) : Host.Outcome State Fault Refusal :=
  whenReleased (fun s => s.accept (.frame { kind := Kind.code .cancel, ch := ch, tag := tag, body := body })) s

/-- LOG_READ (R125). -/
def execLogRead (ch : Channel) (tag : Tag) (body : FrameBody) (s : State) : Host.Outcome State Fault Refusal :=
  whenReleased (fun s => s.accept (.frame { kind := Kind.code .logRead, ch := ch, tag := tag, body := body })) s

/-- SIG_RESET (R132). -/
def execSigReset (ch : Channel) (tag : Tag) (body : FrameBody) (s : State) : Host.Outcome State Fault Refusal :=
  whenReleased (fun s => s.accept (.frame { kind := Kind.code .sigReset, ch := ch, tag := tag, body := body })) s

/-- EVENT_ACK (R173). -/
def execEventAck (ch : Channel) (tag : Tag) (body : FrameBody) (s : State) : Host.Outcome State Fault Refusal :=
  whenReleased (fun s => s.accept (.frame { kind := Kind.code .eventAck, ch := ch, tag := tag, body := body })) s

end Sys2Proof.Machine
end

