-- ==== Sys2Proof/Machine/Power.lean ====
section
/-! DEFINITION. The family of the control pins: HARDWARE_RESET and RESET_RELEASE (R2, R102, R118, R133, R152, R170). -/

namespace Sys2Proof.Machine

/-- Every block in its reset state while RESETN is low: no event is pending (R170). The levels of QUIET and LSEL are the outside
world's, and the model's own counter and queue stay. -/
def State.hardwareReset (s : State) : State :=
  { State.reset with
    resetn := false
    events := 0
    quiet := s.quiet
    lsel := s.lsel
    freeIndex := s.freeIndex
    pending := s.pending }

/-- HARDWARE_RESET: RESETN falls. -/
def execHardwareReset (s : State) : Host.Outcome State Fault Refusal := .next s.hardwareReset

/-- R170: RESETN rises: the pending set is {RESTARTED}. The levels QUIET and LSEL then have are the starting levels, without an edge
(R76, R134). -/
def State.releaseReset (s : State) : State := (s.setResetn true).setEvents Event.restarted.mask

/-- RESET_RELEASE: RESETN rises; with RESETN already high there is no rising edge, and nothing changes. -/
def execResetRelease (s : State) : Host.Outcome State Fault Refusal := .next (if s.resetn then s else s.releaseReset)

end Sys2Proof.Machine
end

