-- ==== Sys2Proof/Machine/Dispatch.lean ====
section
/-! DEFINITION. One arm for each command of Sys2Proof/Syntax.lean: the direct call of its meaning. -/

namespace Sys2Proof.Machine

def exec (i : Instr) (s : State) : Host.Outcome State Fault Refusal :=
  match i with
  | .hardwareReset => Sys2Proof.Machine.execHardwareReset s
  | .resetRelease => Sys2Proof.Machine.execResetRelease s
  | .quietStart => Sys2Proof.Machine.execQuietStart s
  | .quietEnd => Sys2Proof.Machine.execQuietEnd s
  | .starvationTimerExpiry => Sys2Proof.Machine.execStarvationTimerExpiry s
  | .stallLimitExpiry => Sys2Proof.Machine.execStallLimitExpiry s
  | .hostTransactionRequest adr wr cnt => Sys2Proof.Machine.execHostTransactionRequest adr wr cnt s
  | .hostWriteBeat wd be => Sys2Proof.Machine.execHostWriteBeat wd be s
  | .hostReadBeat => Sys2Proof.Machine.execHostReadBeat s
  | .passWriteIssue => Sys2Proof.Machine.execPassWriteIssue s
  | .heldBeatRetry => Sys2Proof.Machine.execHeldBeatRetry s
  | .heldBeatRelease => Sys2Proof.Machine.execHeldBeatRelease s
  | .memoryBeatAnswer err rd => Sys2Proof.Machine.execMemoryBeatAnswer err rd s
  | .drainStart => Sys2Proof.Machine.execDrainStart s
  | .transferPeriodStart => Sys2Proof.Machine.execTransferPeriodStart s
  | .transferPeriodEnd => Sys2Proof.Machine.execTransferPeriodEnd s
  | .headerCheckFailure => Sys2Proof.Machine.execHeaderCheckFailure s
  | .frameFormRefusal ch tag fault => Sys2Proof.Machine.execFrameFormRefusal ch tag fault s
  | .payloadCheckFailure ch tag => Sys2Proof.Machine.execPayloadCheckFailure ch tag s
  | .linkOverrun => Sys2Proof.Machine.execLinkOverrun s
  | .unknownKind kind ch tag body => Sys2Proof.Machine.execUnknownKind kind ch tag body s
  | .responseSent => Sys2Proof.Machine.execResponseSent s
  | .ident ch tag body => Sys2Proof.Machine.execIdent ch tag body s
  | .status ch tag body => Sys2Proof.Machine.execStatus ch tag body s
  | .configGet ch tag body => Sys2Proof.Machine.execConfigGet ch tag body s
  | .configSet ch tag body => Sys2Proof.Machine.execConfigSet ch tag body s
  | .wipe ch tag body => Sys2Proof.Machine.execWipe ch tag body s
  | .wipeEffect => Sys2Proof.Machine.execWipeEffect s
  | .setLimit ch tag body => Sys2Proof.Machine.execSetLimit ch tag body s
  | .resync ch tag body => Sys2Proof.Machine.execResync ch tag body s
  | .winDefine ch tag body => Sys2Proof.Machine.execWinDefine ch tag body s
  | .winStart ch tag body => Sys2Proof.Machine.execWinStart ch tag body s
  | .winRelease ch tag body => Sys2Proof.Machine.execWinRelease ch tag body s
  | .winQuery ch tag body => Sys2Proof.Machine.execWinQuery ch tag body s
  | .winAbort ch tag body => Sys2Proof.Machine.execWinAbort ch tag body s
  | .close ch tag body => Sys2Proof.Machine.execClose ch tag body s
  | .cancel ch tag body => Sys2Proof.Machine.execCancel ch tag body s
  | .logRead ch tag body => Sys2Proof.Machine.execLogRead ch tag body s
  | .sigReset ch tag body => Sys2Proof.Machine.execSigReset ch tag body s
  | .eventAck ch tag body => Sys2Proof.Machine.execEventAck ch tag body s
  | .byteReceived b => Sys2Proof.Machine.execByteReceived b s
  | .byteSent => Sys2Proof.Machine.execByteSent s

end Sys2Proof.Machine
end

