-- ==== Sys2Proof/Safety.lean ====
section
/-! DEFINITION. The terms in which statements about the part are made: the laws of the device as predicates over State, the conditions
under which the command path takes a request at once, and what an answered beat leaves. -/

namespace Sys2Proof.Machine

/-! ## Laws of the device -/

/-- R24, R25: the store lists at most 512 slots that are not FREE, in strictly ascending order of window, epoch and line address; no
two of them therefore have the same key. -/
abbrev State.StoreWf (s : State) : Prop :=
  s.slots.Pairwise (fun x y => x.before y = true) ∧ s.slots.length ≤ 512

/-- R11: the spans of any two windows that are not FREE do not intersect. -/
abbrev State.SpansDisjoint (s : State) : Prop :=
  ∀ w v : WindowNo, w ≠ v → ∀ d ∈ (s.win w).definition, ∀ d' ∈ (s.win v).definition,
    spansMeet d.geometry.span d'.geometry.span = false

/-- R28: the slots-held count of a window that is not FREE is at most its quota. -/
abbrev State.WithinQuota (s : State) : Prop :=
  ∀ w : WindowNo, ∀ d ∈ (s.win w).definition, (s.win w).slotsHeld ≤ d.quota

/-- R47: at most 8 batches, and none but the head is DRAINING. -/
abbrev State.QueueLaw (s : State) : Prop := s.queue.length ≤ 8 ∧ ∀ r ∈ s.queue.tail, r.isQueued = true

/-- R120: the records and the reservation together are at most 32. -/
abbrev State.LogLaw (s : State) : Prop := s.log.records.length + (if s.log.reserved then 1 else 0) ≤ 32

/-- R80: the activity is WRITING or HELD. -/
def DrainActivity.drains : DrainActivity → Bool
  | .writing _ | .held => true
  | .idle | .waitLog => false

/-- R47, R80, R120, R121: the queue law, the log law, the reservation held exactly for a DRAINING batch, and a batch DRAINING exactly
while the activity is WRITING or HELD. -/
abbrev State.DrainLaw (s : State) : Prop :=
  s.QueueLaw ∧ s.LogLaw ∧ s.log.reserved = s.drainingHead.isSome ∧ s.drain.activity.drains = s.drainingHead.isSome

/-- R115: a grant is made at once: while the port is NONE no requester waits. -/
abbrev State.PortSettled (s : State) : Prop := s.mpa.port = none → s.mpa.hostReq = none ∧ s.mpa.drainReq = none

/-- R145, R149: at most eight places are claimed, and every return limit is 8 to 64. -/
abbrev State.LinkLaw (s : State) : Prop :=
  s.slc.responses.length ≤ 8 ∧ ∀ c : Channel, 8 ≤ s.slc.limits[c.val] ∧ s.slc.limits[c.val] ≤ 64

/-- The valid bytes of the slots that satisfy `p`. -/
def validBytes (p : Slot → Bool) (slots : List Slot) : Nat := ((slots.filter p).map fun x => validCount x.cells).sum

/-- R14, R18, R24, R28, R32, R48: every slot in its place. Each window holds as many slots as its count says; an OPEN slot belongs to the
open group of a CAPTURING window, whose counts count such slots; every other slot belongs to a batch of the queue, QUEUED or
DRAINING with it, and the batch's totals count its slots; the groups of one window have epochs of their own; and a RETIRING window
waits for the last of its batches, while an IDLE or FREE one has none. A held beat's address is a word address (R103, R108). -/
structure State.SlotLaw (s : State) : Prop where
  held : ∀ w : WindowNo, (s.win w).slotsHeld = s.slots.countP fun x => x.window = w
  opened : ∀ x ∈ s.slots, x.status = .opened → ∃ d n g, s.win x.window = .capturing d x.epoch n g
  group : ∀ (w : WindowNo) (d : WindowDef) (e : Epoch) (n : Nat) (g : OpenGroup), s.win w = .capturing d e n g →
    g.lines = s.slots.countP (Slot.openOf w) ∧ g.bytes = validBytes (Slot.openOf w) s.slots ∧
      e ∉ (queueGroups s.queue w).map Prod.snd
  closed : ∀ x ∈ s.slots, x.status ≠ .opened → ∃ r ∈ s.queue, x.inBatch r.members = true
  batch : ∀ r ∈ s.queue, r.members.Pairwise (fun m n => m.window < n.window) ∧
    r.lines = s.slots.countP (Slot.inBatch r.members) ∧ r.bytes = validBytes (Slot.inBatch r.members) s.slots ∧
    ∀ x ∈ s.slots, x.inBatch r.members = true → x.status = if r.isDraining then .draining else .queued
  epochs : ∀ w : WindowNo, ((queueGroups s.queue w).map Prod.snd).Nodup
  retiring : ∀ (w : WindowNo) (d : WindowDef) (e : Epoch) (n : Nat) (q : Sequence), s.win w = .retiring d e n q →
    ((queueGroups s.queue w).map Prod.fst).getLast? = some q
  idle : ∀ w : WindowNo, (s.win w).isIdle = true ∨ (s.win w).isFree = true → queueGroups s.queue w = []
  beat : ∀ h ∈ s.hpi.held, h.addr % 4 = 0

/-- R49: the sequence numbers in the queue are distinct, and none of them is among the next eight that the counter will give. -/
abbrev State.FreshSequences (s : State) : Prop :=
  (s.queue.map (·.seq)).Nodup ∧ ∀ r ∈ s.queue, ∀ k < 8, r.seq ≠ Nat.repeat nextSequence k s.nextSeq

/-! ## The command path at rest -/

/-- R143, R144: RESETN is high, no request waits, and a place is free: a frame that completes is executed at once. -/
abbrev State.LinkReady (s : State) : Prop :=
  s.resetn = true ∧ s.slc.wipeTaken = false ∧ firstAwaiting s.slc.responses = none ∧ s.slc.responses.length < 8

/-- The state with one more FILLED place at the tail of the response queue. -/
def State.answered (s : State) (ch : Channel) (tag : Tag) (reply : Reply) : State :=
  s.setResponses (s.slc.responses ++ [.filled { ch := ch, tag := tag, reply := reply }])

/-- The command of a request kind. -/
def commandOf (k : Kind) (ch : Channel) (tag : Tag) (body : FrameBody) : Instr :=
  match k with
  | .ident => .ident ch tag body
  | .status => .status ch tag body
  | .configGet => .configGet ch tag body
  | .configSet => .configSet ch tag body
  | .wipe => .wipe ch tag body
  | .setLimit => .setLimit ch tag body
  | .resync => .resync ch tag body
  | .winDefine => .winDefine ch tag body
  | .winStart => .winStart ch tag body
  | .winRelease => .winRelease ch tag body
  | .winQuery => .winQuery ch tag body
  | .winAbort => .winAbort ch tag body
  | .close => .close ch tag body
  | .cancel => .cancel ch tag body
  | .logRead => .logRead ch tag body
  | .sigReset => .sigReset ch tag body
  | .eventAck => .eventAck ch tag body

/-- Table 8-1: the number of payload words of a kind sent long, or none for a kind sent short. -/
def Kind.payloadWords : Kind → Option Nat
  | .configSet => some 3
  | .winDefine => some 5
  | .close | .cancel | .eventAck => some 1
  | _ => none

/-- R153: the body has the form Table 8-1 gives the kind. -/
def Kind.formOk (k : Kind) : FrameBody → Bool
  | .short _ => k.payloadWords = none
  | .long ws => k.payloadWords = some ws.length

/-- The commands of a list taken one after another, each on the state the one before it left. -/
def execAll : List Instr → State → Host.Outcome State Fault Refusal
  | [], s => .next s
  | i :: rest, s =>
    match exec i s with
    | .next t => execAll rest t
    | .fault f => .fault f
    | .refused r => .refused r

/-- R143: the command of a frame: its kind's, or UNKNOWN_KIND. -/
def Frame.command (f : Frame) : Instr :=
  match kindOfCode f.kind with
  | some k => commandOf k f.ch f.tag f.body
  | none => .unknownKind f.kind f.ch f.tag f.body

/-- R143: the command of a request that holds a place: a frame's, or that of the refusal the link found (R140, R141). -/
def Request.command : Request → Instr
  | .frame f => f.command
  | .refused ch tag .check => .payloadCheckFailure ch tag
  | .refused ch tag _ => .frameFormRefusal ch tag .reservedBit

/-- R140, R141: the request is one that a command places, and with it the assembler stands where that command leaves it: the link refuses
a frame with LENGTH or CHECK alone, and the refusal's command ends the frame the assembler is in. -/
def Request.standsFor (a : Assembler) : Request → Bool
  | .frame _ => true
  | .refused _ _ r => (r = .length || r = .check) && a.afterFrame = a

/-! ## Events -/

/-- The command is a complete frame: a request of any kind, or a frame the link refused. -/
def isFrame : Instr → Bool
  | .ident _ _ _ | .status _ _ _ | .configGet _ _ _ | .configSet _ _ _ | .wipe _ _ _ | .setLimit _ _ _ | .resync _ _ _
  | .winDefine _ _ _ | .winStart _ _ _ | .winRelease _ _ _ | .winQuery _ _ _ | .winAbort _ _ _ | .close _ _ _ | .cancel _ _ _
  | .logRead _ _ _ | .sigReset _ _ _ | .eventAck _ _ _ | .unknownKind _ _ _ _ | .frameFormRefusal _ _ _
  | .payloadCheckFailure _ _ => true
  | _ => false

/-- R83, R84, R88, R93, R94: the command may start or complete a batch, or come to wait for the log: an edge or an expiry that begins an
opportunity, a drain start, an answer of memory, or one of the four requests that can lead to a drain start. -/
def mayDrain : Instr → Bool
  | .quietStart | .starvationTimerExpiry | .drainStart | .memoryBeatAnswer _ _ | .configSet _ _ _ | .close _ _ _ | .cancel _ _ _
  | .logRead _ _ _ => true
  | _ => false

/-- Table 9-1: the command may hold the cause of the event. A received byte may complete a frame of any kind. -/
def Event.causedBy (e : Event) (i : Instr) : Bool :=
  match e with
  | .restarted => (i matches .resetRelease)
  | .batchDone | .batchTorn | .logFull => mayDrain i || (i matches .byteReceived _)
  | .writeLost => (i matches .hostWriteBeat _ _ | .stallLimitExpiry | .configSet _ _ _ | .byteReceived _)
  | .writeBypassed => (i matches .hostWriteBeat _ _ | .passWriteIssue | .memoryBeatAnswer _ _)
  | .stallTimeout => (i matches .stallLimitExpiry | .configSet _ _ _ | .byteReceived _)
  | .starved => (i matches .starvationTimerExpiry | .configSet _ _ _ | .byteReceived _)
  | .memError => (i matches .memoryBeatAnswer true _)
  | .linkError => (i matches .headerCheckFailure | .transferPeriodEnd | .byteReceived _)
  | .linkOverrun => isFrame i || (i matches .linkOverrun | .byteReceived _)

/-! ## Host beats -/

/-- R103, R104: the host port interface after the beat at the next index of `t` is answered `a`: the next beat is to come, or the
transaction ends and a request that waits is taken. -/
def Hpi.afterBeat (h : Hpi) (t : HostTransaction) (a : HostAnswer) : Hpi :=
  if t.index < t.req.cnt.toNat then
    { txn := some { req := t.req, index := t.index + 1, beat := .waiting }, waiting := h.waiting, answer := some a }
  else
    { txn := h.waiting.head?.map fun r => { req := r, index := 0, beat := .waiting }, waiting := h.waiting.tail, answer := some a }

/-- The HPI after its next beat has been taken and stands as `b`, unanswered. -/
def Hpi.withBeat (h : Hpi) (t : HostTransaction) (b : BeatStatus) : Hpi :=
  { txn := some { req := t.req, index := t.index, beat := b }, waiting := h.waiting, answer := none }

/-- R115: the port after the host path's request joins: granted at once when the port is NONE and no drain run waits, else waiting. -/
def Mpa.withHostRequest (m : Mpa) (x : PortTxn) : Mpa :=
  match m.port with
  | none => { m with port := some x, hostReq := none, lastGrant := .host }
  | some _ => { m with hostReq := some x }

/-- R114, R115: the port when its transaction is complete: a request that waits is granted, the other requester's before the last
grant's. -/
def Mpa.nextGrant (m : Mpa) : Mpa :=
  match m.hostReq, m.drainReq with
  | none, none => { m with port := none }
  | some h, none => { m with port := some h, hostReq := none, lastGrant := .host }
  | none, some r => { m with port := some (.drainRun r 0), drainReq := none, lastGrant := .drain }
  | some h, some r =>
    match m.lastGrant with
    | .drain => { m with port := some h, hostReq := none, lastGrant := .host }
    | .host => { m with port := some (.drainRun r 0), drainReq := none, lastGrant := .drain }

/-- R115: the state with its memory port taken: requests that join it wait. -/
def State.portTaken (s : State) : State := { s with mpa := { s.mpa with port := some (s.mpa.port.getD (.hostRead 0)) } }

/-- R115: the state an effect leaves that was made with the port taken, when the port was `port` before it: of the requests that joined, a
port that was NONE takes one by turn. -/
def State.thenGranted (s : State) (port : Option PortTxn) : State :=
  match port with
  | none => { s with mpa := s.mpa.nextGrant }
  | some _ => s

/-! ## Lines -/

/-- R115, R116: the memory port and arbiter after a line is begun: the interlock names the line, and the line's first run is granted
when the port is NONE, or waits. -/
def Mpa.withLine (m : Mpa) (line : Nat) (first : Option DrainRun) : Mpa :=
  match m.port, first with
  | none, some r => { m with port := some (.drainRun r 0), drainReq := none, lastGrant := .drain, interlock := some line }
  | _, _ => { m with drainReq := first, interlock := some line }

/-- R81, R82, R87, R92, R116: the state after the engine has begun the line of slot `x` of member `m` of the head: the line in progress
with the slot's bytes as they stand, the charge in phase QUIET, FORCED in phase FORCED, the intervals count at the first line of an
opportunity, and the interlock. -/
def State.lineBegun (s : State) (m : Member) (x : Slot) : State :=
  { s with
    queue := s.queue.modifyHead fun r =>
      { r with
        flags := { r.flags with forced := r.flags.forced || decide (s.drain.phase = .forced) }
        intervals := if s.drain.begun = true ∨ r.intervals = 255#8 then r.intervals else r.intervals + 1 }
    drain :=
      { s.drain with
        activity := .writing { member := m, line := x.line, cells := x.cells, runs := (runsOf x.cells x.line).tail }
        remainder := if s.drain.phase = .quiet then s.drain.remainder - validCount x.cells else s.drain.remainder
        begun := true }
    mpa := s.mpa.withLine x.line (runsOf x.cells x.line).head? }

end Sys2Proof.Machine
end

