-- ==== Sys2Proof/WellFormed.lean ====
section
/-! DEFINITION. Which commands the spec's own forms admit: a long frame carries 1 to 64 payload words (R135), and an UNKNOWN_KIND
frame names a kind that Table 8-1 does not list and that can reach the command path (R154). -/

namespace Sys2Proof

/-- R135: the payload word count of a long frame is 1 to 64. -/
def FrameBody.wellFormed : FrameBody → Bool
  | .short _ => true
  | .long ws => 1 ≤ ws.length && ws.length ≤ 64

/-- Table 8-1: the codes of the seventeen request kinds, in the table's order. -/
def catalogue : List Byte :=
  [0x01#8, 0x02#8, 0x03#8, 0x04#8, 0x05#8, 0x08#8, 0x09#8, 0x10#8, 0x11#8, 0x12#8, 0x13#8, 0x14#8, 0x20#8, 0x21#8, 0x30#8,
   0x31#8, 0x38#8]

/-- R154: a kind that is refused with UNKNOWN; FFH is fill and cannot reach the command path. -/
def unknownKindCode (kind : Byte) : Bool := !catalogue.contains kind && kind != 0xFF#8

/-- The commands whose operands the spec's forms admit. -/
def Instr.wellFormed : Instr → Bool
  | .unknownKind kind _ _ body => unknownKindCode kind && body.wellFormed
  | .ident _ _ b | .status _ _ b | .configGet _ _ b | .configSet _ _ b | .wipe _ _ b | .setLimit _ _ b | .resync _ _ b
  | .winDefine _ _ b | .winStart _ _ b | .winRelease _ _ b | .winQuery _ _ b | .winAbort _ _ b | .close _ _ b
  | .cancel _ _ b | .logRead _ _ b | .sigReset _ _ b | .eventAck _ _ b => b.wellFormed
  | .hardwareReset | .resetRelease | .quietStart | .quietEnd | .starvationTimerExpiry | .stallLimitExpiry
  | .hostTransactionRequest _ _ _ | .hostWriteBeat _ _ | .hostReadBeat | .passWriteIssue | .heldBeatRetry
  | .heldBeatRelease | .memoryBeatAnswer _ _ | .drainStart | .transferPeriodStart | .transferPeriodEnd
  | .headerCheckFailure | .frameFormRefusal _ _ _ | .payloadCheckFailure _ _ | .linkOverrun | .responseSent
  | .wipeEffect | .byteReceived _ | .byteSent => true

end Sys2Proof
end

