-- ==== Sys2Proof/Certificates/Slice0/Obligations.lean ====
section
/-! DEFINITION. The statements for the provers. Each formalises rules of spec/ over the whole device; a request's next state is given as
the state it leaves with its answer at the tail of the response queue. -/

open Sys2Proof Sys2Proof.Machine

/-! ## The step, the pins and the laws after reset -/

/-- One step takes the command at the front of the queue and runs it with the queue's rest. -/
def Obligations.StepRunsTheFrontCommand : Prop :=
  ∀ (i : Instr) (rest : List Instr) (s : State), s.pending = i :: rest → step s = exec i { s with pending := rest }

/-- On an empty queue one microsecond of TCLK passes. That a step on an empty queue is a tick is the model's own choice (log entry
4); what the tick counts is R96, R97, R99, R108 and R111. With both timers running the stall timer is taken first. -/
def Obligations.IdleStepCountsOneMicrosecond : Prop :=
  ∀ s : State, s.pending = [] →
    (s.resetn = false → step s = .next s) ∧
    (s.resetn = true → s.timerRuns = false → s.hpi.held = none → step s = .next s) ∧
    (∀ t h, s.resetn = true → s.timerRuns = false → s.hpi.txn = some t → t.beat = .held h →
      h.elapsed + 1 < s.config.stallLimit.toNat →
        step s = .next { s with hpi := { s.hpi with txn := some { t with beat := .held { h with elapsed := h.elapsed + 1 } } } }) ∧
    (∀ h, s.resetn = true → s.timerRuns = false → s.hpi.held = some h → s.config.stallLimit.toNat ≤ h.elapsed + 1 →
      step s = exec .stallLimitExpiry s) ∧
    (s.resetn = true → s.timerRuns = true → s.hpi.held = none → s.drain.timer.elapsed < s.config.starvationLimit.toNat →
      s.drain.timer.micros + 1 < 1000 →
        step s = .next { s with drain := { s.drain with timer := { s.drain.timer with micros := s.drain.timer.micros + 1 } } }) ∧
    (s.resetn = true → s.timerRuns = true → s.hpi.held = none → s.drain.timer.elapsed + 1 < s.config.starvationLimit.toNat →
      1000 ≤ s.drain.timer.micros + 1 →
        step s = .next
          { s with
            drain := { s.drain with timer := { s.drain.timer with elapsed := s.drain.timer.elapsed + 1, micros := 0 } } }) ∧
    (s.resetn = true → s.timerRuns = true → s.hpi.held = none → s.config.starvationLimit.toNat ≤ s.drain.timer.elapsed + 1 →
      1000 ≤ s.drain.timer.micros + 1 → step s = exec .starvationTimerExpiry s) ∧
    (s.resetn = true → s.timerRuns = true → s.hpi.held = none → s.config.starvationLimit.toNat ≤ s.drain.timer.elapsed →
      step s = exec .starvationTimerExpiry s) ∧
    (∀ t h, s.resetn = true → s.timerRuns = true → s.hpi.txn = some t → t.beat = .held h →
      let counted : State :=
        { s with hpi := { s.hpi with txn := some { t with beat := .held { h with elapsed := h.elapsed + 1 } } } }
      let due := s.config.starvationLimit.toNat ≤ s.drain.timer.elapsed ∨
        s.config.starvationLimit.toNat = s.drain.timer.elapsed + 1 ∧ 1000 ≤ s.drain.timer.micros + 1
      ∃ u,
        (if h.elapsed + 1 < s.config.stallLimit.toNat then u = counted else exec .stallLimitExpiry s = .next u) ∧
        (due → step s = exec .starvationTimerExpiry u) ∧
        (¬due → step s = .next
          { u with
            drain :=
              { u.drain with
                timer :=
                  if s.drain.timer.micros + 1 < 1000 then { s.drain.timer with micros := s.drain.timer.micros + 1 }
                  else { s.drain.timer with elapsed := s.drain.timer.elapsed + 1, micros := 0 } } }))

/-- Every command has its effect in every state: none ends in a fault or a refusal; and no command changes the queue of commands that
wait. -/
def Obligations.EveryCommandTakesEffect : Prop := ∀ (i : Instr) (s : State), ∃ t, exec i s = .next t ∧ t.pending = s.pending

/-- While RESETN is low the part ignores its inputs: only the levels of QUIET and LSEL, which the outside world drives, follow the
commands that change them (R2, R76, R118, R134, R170). -/
def Obligations.ResetnLowHoldsEverything : Prop :=
  ∀ (i : Instr) (s : State), s.resetn = false → i ≠ .hardwareReset → i ≠ .resetRelease →
    exec i s = .next
      (if i = .quietStart then { s with quiet := true }
      else if i = .quietEnd then { s with quiet := false }
      else if i = .transferPeriodStart then { s with lsel := false }
      else if i = .transferPeriodEnd then { s with lsel := true }
      else s)

/-- HARDWARE_RESET puts every block in its reset state from every state, and RESET_RELEASE leaves {RESTARTED} pending and ATTN high.
The levels of QUIET and LSEL, the free-value counter and the waiting commands are not the reset's (log entries 1 and 2). -/
def Obligations.HardwareResetClearsEveryBlock : Prop :=
  ∀ s : State, ∃ t u, exec .hardwareReset s = .next t ∧ exec .resetRelease t = .next u ∧
    t.resetn = false ∧ t.attn = false ∧ u = { t with resetn := true, events := 1#11 } ∧ u.attn = true ∧
    (∀ w, u.win w = .free) ∧ u.slots = [] ∧ u.freeSlotCount = 512 ∧ u.queue = [] ∧ u.nextSeq = 1#16 ∧
    u.drain.phase = .closed ∧ u.drain.activity = .idle ∧ u.drain.remainder = 0 ∧ u.drain.frameCount = 0#16 ∧
    u.drain.begun = false ∧ u.starvationState = .stopped ∧ u.drain.timer.elapsed = 0 ∧
    u.hpi.txn = none ∧ u.hpi.held = none ∧ u.mpa.port = none ∧ u.mpa.lastGrant = .drain ∧ u.mpa.interlock = none ∧
    u.log.records = [] ∧ u.log.reserved = false ∧ u.chain = 0#32 ∧
    u.slc.assembler = .idle ∧ u.slc.responses = [] ∧ u.slc.ldo = 0xFF#8 ∧ u.slc.headerErrors = 0#8 ∧
    (∀ c : Channel, u.slc.limits[c.val] = 16) ∧
    u.config = { budget := 256#16, starvationLimit := 0#16, stallLimit := 1000#16, forceEnable := false, eventMask := 0x7FF#11 } ∧
    u = { State.reset with quiet := s.quiet, lsel := s.lsel, freeIndex := s.freeIndex, pending := s.pending } ∧
    (s.resetn = true → exec .resetRelease s = .next s)

/-- The laws of the device hold right after reset. -/
def Obligations.ResetMeetsTheLaws : Prop :=
  State.reset.StoreWf ∧ State.reset.SpansDisjoint ∧ State.reset.WithinQuota ∧ State.reset.DrainLaw ∧ State.reset.PortSettled ∧
    State.reset.LinkLaw ∧ State.reset.SlotLaw

/-- R25, R27: every step keeps the staging store in its form: at most 512 slots, and no two with the same window, epoch and line. -/
def Obligations.StepKeepsTheStore : Prop := ∀ s t : State, s.StoreWf → step s = .next t → t.StoreWf

/-- R11, R28: every step keeps the spans of the windows that are not FREE apart, and each window within its quota. -/
def Obligations.StepKeepsSpansAndQuotas : Prop :=
  ∀ s t : State, step s = .next t → (s.SpansDisjoint → t.SpansDisjoint) ∧ (s.WithinQuota → t.WithinQuota)

/-- R47, R80, R120, R121: every step keeps at most eight batches with none but the oldest DRAINING, at most 32 records and
reservations, a reservation exactly for a DRAINING batch, and a batch DRAINING exactly in WRITING and HELD. -/
def Obligations.StepKeepsTheDrainLaw : Prop := ∀ s t : State, s.DrainLaw → step s = .next t → t.DrainLaw

/-- R115, R145, R149: every step leaves no request waiting at a free memory port, at most eight claimed places, and return limits of 8
to 64 words. -/
def Obligations.StepKeepsPortAndLink : Prop :=
  ∀ s t : State, step s = .next t → (s.PortSettled → t.PortSettled) ∧ (s.LinkLaw → t.LinkLaw)

/-- R77, R155, R169, R172, R173 and Table 9-1: what no command may change but the ones the rules name: the frame count rises by one at a
quiet start and changes otherwise only at a hardware reset; RESTARTED is set by the release of RESETN alone; a pending event is
cleared by EVENT_ACK and by RESETN alone; and each event is set only by commands that may hold its cause. (A received byte, a
waiting request or an ill-formed command may be any request, so the last two clauses are about the others.) And ATTN is high
exactly while RESETN is high and an event is pending and enabled or a place is FILLED. -/
def Obligations.FrameCountAndEventsChangeAsNamed : Prop :=
  (∀ (i : Instr) (s t : State), exec i s = .next t →
    (i ≠ .quietStart → i ≠ .hardwareReset → t.drain.frameCount = s.drain.frameCount) ∧
    (i = .quietStart → t.drain.frameCount = if s.resetn && !s.quiet then s.drain.frameCount + 1 else s.drain.frameCount) ∧
    (i ≠ .resetRelease → EventSet.has t.events .restarted = true → EventSet.has s.events .restarted = true) ∧
    (i.wellFormed = true → i ≠ .hardwareReset → (∀ ch tag body, i ≠ .eventAck ch tag body) → (∀ b, i ≠ .byteReceived b) →
      (i = .resetRelease → s.resetn = true) → firstAwaiting s.slc.responses = none →
        ∀ e, EventSet.has s.events e = true → EventSet.has t.events e = true) ∧
    (i.wellFormed = true → firstAwaiting s.slc.responses = none →
      ∀ e, EventSet.has t.events e = true → EventSet.has s.events e = true ∨ e.causedBy i = true)) ∧
  ∀ s : State, s.attn = true ↔
    s.resetn = true ∧
      ((∃ k < 11, s.events.getLsbD k = true ∧ s.config.eventMask.getLsbD k = true) ∨ ∃ r, Place.filled r ∈ s.slc.responses)

/-! ## The setup link -/

/-- R129 in its own words, bit by bit: generator polynomial 1EDC6F41H, each stream byte taken least significant bit first, the register
read out with its bit order reversed, initial value FFFFFFFFH and final XOR FFFFFFFFH; the value over the digits 1 to 9; and the
same computation for the chain signature. R128: the stream bytes of one line are its address, its valid mask and its valid bytes. -/
def Obligations.SignatureIsTheStatedCrc : Prop :=
  (∀ bs : List Byte,
    crc32c bs =
      (bs.foldl (fun (c : BitVec 32) (b : Byte) => (List.range 8).foldl
        (fun (c : BitVec 32) (k : Nat) => if c.msb != b.getLsbD k then (c <<< 1) ^^^ 0x1EDC6F41#32 else c <<< 1) c) 0xFFFFFFFF#32).reverse ^^^
        0xFFFFFFFF#32) ∧
  crc32c [0x31#8, 0x32#8, 0x33#8, 0x34#8, 0x35#8, 0x36#8, 0x37#8, 0x38#8, 0x39#8] = 0xE3069283#32 ∧
  (∀ chain sig : BitVec 32, foldChain chain sig = crc32c (bytesOf chain ++ bytesOf sig)) ∧
  (∀ (line : Nat) (cells : Cells), line < 2 ^ 24 →
    ∃ mask : BitVec 32, (∀ i (h : i < 32), mask.getLsbD i = cells[i].isSome) ∧
      lineStream line cells =
        [0x00#8, BitVec.ofNat 8 (line / 2 ^ 16), BitVec.ofNat 8 (line / 2 ^ 8), BitVec.ofNat 8 line] ++
          [mask.extractLsb' 24 8, mask.extractLsb' 16 8, mask.extractLsb' 8 8, mask.extractLsb' 0 8] ++
          (List.finRange 32).filterMap fun i => cells[i])

/-- R135, R138, R143: the bytes of a request frame, received one by one from a frame boundary, do what the request's command does; so do
those of a frame of any other kind but FFH. The kind codes are those of Table 8-1. -/
def Obligations.FrameBytesReachTheCommandPath : Prop :=
  (∀ (k : Kind) (ch : Channel) (tag : Tag) (body : FrameBody) (s : State),
    body.wellFormed = true → s.resetn = true → s.slc.assembler = .frameStart →
      execAll ((Frame.bytes { kind := k.code, ch := ch, tag := tag, body := body }).map .byteReceived) s =
        exec (commandOf k ch tag body) s) ∧
  (∀ (kind : Byte) (ch : Channel) (tag : Tag) (body : FrameBody) (s : State),
    kind ≠ 0xFF#8 → body.wellFormed = true → s.resetn = true → s.slc.assembler = .frameStart →
      execAll ((Frame.bytes { kind := kind, ch := ch, tag := tag, body := body }).map .byteReceived) s =
        exec (.unknownKind kind ch tag body) s) ∧
  [Kind.ident, .status, .configGet, .configSet, .wipe, .setLimit, .resync, .winDefine, .winStart, .winRelease, .winQuery, .winAbort,
    .close, .cancel, .logRead, .sigReset, .eventAck].map Kind.code =
  [0x01#8, 0x02#8, 0x03#8, 0x04#8, 0x05#8, 0x08#8, 0x09#8, 0x10#8, 0x11#8, 0x12#8, 0x13#8, 0x14#8, 0x20#8, 0x21#8, 0x30#8, 0x31#8,
    0x38#8]

/-- R136, R137, R139 to R141: the bytes of a faulty frame, received one by one from a frame boundary, do what the command of its fault
does: a bad header check, a word count of 0 or above 64, the reserved bit in a short or a long frame, a bad payload check. -/
def Obligations.FaultyFramesReachTheirRefusals : Prop :=
  ∀ (b0 b1 b2 b3 : Byte) (payload : List Byte) (c0 c1 : Byte) (s : State),
    b0 ≠ 0xFF#8 → s.resetn = true → s.slc.assembler = .frameStart →
    (b3 ≠ crc8 [b0, b1, b2] → execAll ([b0, b1, b2, b3].map .byteReceived) s = exec .headerCheckFailure s) ∧
    (b3 = crc8 [b0, b1, b2] → b1.getLsbD 5 = true → (b2.toNat = 0 ∨ 64 < b2.toNat) →
      execAll ([b0, b1, b2, b3].map .byteReceived) s = exec (.frameFormRefusal (channelOf b1) (tagOf b1) .wordCount) s) ∧
    (b3 = crc8 [b0, b1, b2] → b1.getLsbD 5 = false → b1.getLsbD 4 = true →
      execAll ([b0, b1, b2, b3].map .byteReceived) s = exec (.frameFormRefusal (channelOf b1) (tagOf b1) .reservedBit) s) ∧
    (b3 = crc8 [b0, b1, b2] → b1.getLsbD 5 = true → 1 ≤ b2.toNat → b2.toNat ≤ 64 → b1.getLsbD 4 = true →
      payload.length = 4 * b2.toNat →
        execAll ((b0 :: b1 :: b2 :: b3 :: (payload ++ [c0, c1])).map .byteReceived) s =
          exec (.frameFormRefusal (channelOf b1) (tagOf b1) .reservedBit) s) ∧
    (b3 = crc8 [b0, b1, b2] → b1.getLsbD 5 = true → 1 ≤ b2.toNat → b2.toNat ≤ 64 → b1.getLsbD 4 = false →
      payload.length = 4 * b2.toNat → c0 ++ c1 ≠ crc16 payload →
        execAll ((b0 :: b1 :: b2 :: b3 :: (payload ++ [c0, c1])).map .byteReceived) s =
          exec (.payloadCheckFailure (channelOf b1) (tagOf b1)) s)

/-- R134, R138, R142, R147: the edges of LSEL. A falling edge begins a transfer period at FRAME_START; a rising edge ends it, discards a
frame being assembled with LINK_ERROR, and leaves a response being sent at the head, to be sent from its first byte. -/
def Obligations.TransferPeriodEdges : Prop :=
  ∀ s : State, s.resetn = true →
    (s.lsel = true → exec .transferPeriodStart s =
      .next { s with lsel := false, slc := { s.slc with assembler := .frameStart, txPos := 0, txFill := false } }) ∧
    (s.lsel = false → exec .transferPeriodStart s = .next s) ∧
    (s.lsel = false → exec .transferPeriodEnd s =
      .next
        { s with
          lsel := true
          events :=
            match s.slc.assembler with
            | .header _ | .payload _ _ => s.events ||| 0x200#11
            | .idle | .frameStart | .ignore => s.events
          slc := { s.slc with assembler := .idle, txPos := 0, txFill := false, ldo := 0xFF#8 } }) ∧
    (s.lsel = true → exec .transferPeriodEnd s = .next s)

/-- R138: a received byte, case by case of its table, where it completes neither a header nor a payload. -/
def Obligations.ByteReceivedFollowsTheTable : Prop :=
  ∀ (b : Byte) (s : State), s.resetn = true →
    (s.slc.assembler = .idle ∨ s.slc.assembler = .ignore → exec (.byteReceived b) s = .next s) ∧
    (s.slc.assembler = .frameStart → b = 0xFF#8 → exec (.byteReceived b) s = .next s) ∧
    (s.slc.assembler = .frameStart → b ≠ 0xFF#8 →
      exec (.byteReceived b) s = .next { s with slc := { s.slc with assembler := .header [b] } }) ∧
    (∀ got, s.slc.assembler = .header got → got.length < 3 →
      exec (.byteReceived b) s = .next { s with slc := { s.slc with assembler := .header (got ++ [b]) } }) ∧
    (∀ h got, s.slc.assembler = .payload h got → got.length + 1 < 4 * h.words + 2 →
      exec (.byteReceived b) s = .next { s with slc := { s.slc with assembler := .payload h (got ++ [b]) } })

/-- R134, R146, R150: within a transfer period the bytes of the FILLED head leave on LDO in their order, one a byte time; when the last is
sent the place leaves the queue, and so does a head whose rest is sent as one command (RESPONSE_SENT; log entry 6). Outside a
transfer period nothing is sent; within one, with an empty queue, an AWAITING head, or a RESYNC taken in the period, LDO carries the
fill byte FFH. -/
def Obligations.TransmitterSendsFramesAndFill : Prop :=
  (∀ (r : Response) (rest : List Place) (s : State),
    s.resetn = true → s.slc.assembler ≠ .idle → s.slc.responses = .filled r :: rest → s.slc.txFill = false →
    exec .responseSent s =
      .next { s with slc := { s.slc with responses := rest, txPos := 0, ldo := r.bytes.getLastD 0xFF#8 } } ∧
    (∀ h : s.slc.txPos < r.bytes.length,
      exec .byteSent s =
        .next
          { s with
            slc :=
              { s.slc with
                responses := if s.slc.txPos + 1 = r.bytes.length then rest else s.slc.responses
                txPos := if s.slc.txPos + 1 = r.bytes.length then 0 else s.slc.txPos + 1
                ldo := r.bytes[s.slc.txPos] } }) ∧
    (s.slc.txPos = 0 →
      (∀ i (h : i < r.bytes.length), ∃ t, execAll (List.replicate (i + 1) .byteSent) s = .next t ∧ t.slc.ldo = r.bytes[i]) ∧
      execAll (List.replicate r.bytes.length .byteSent) s = exec .responseSent s)) ∧
  (∀ s : State, s.resetn = true →
    (s.slc.assembler = .idle → exec .byteSent s = .next s ∧ exec .responseSent s = .next s) ∧
    (s.slc.responses = [] ∨ (∃ q rest, s.slc.responses = .awaiting q :: rest) ∨ s.slc.txFill = true →
      exec .responseSent s = .next s ∧
      (s.slc.assembler ≠ .idle → exec .byteSent s = .next { s with slc := { s.slc with ldo := 0xFF#8 } })))

/-- R135, R136, R137, R148, R156: the frame of a response: its kind, its request's channel and tag in the places of Table 8-3, LONG for
DATA alone, the reserved bit clear, the argument, reason or word count, both checks, and its length. The reason codes are those of
Table 8-4. -/
def Obligations.ResponseFramesHaveTheirForm : Prop :=
  [Reason.check, .length, .unknown, .range, .align, .owner, .state, .overlap, .full, .oversize, .busy, .notFound].map Reason.code =
    [0x01#8, 0x02#8, 0x03#8, 0x04#8, 0x05#8, 0x06#8, 0x07#8, 0x08#8, 0x09#8, 0x0A#8, 0x0B#8, 0x0C#8] ∧
  ∀ (ch : Channel) (tag : Tag),
    (∀ r : Response, r.ch = ch → r.tag = tag →
      ∃ b0 b1 b2 b3 tail, r.bytes = b0 :: b1 :: b2 :: b3 :: tail ∧ b3 = crc8 [b0, b1, b2] ∧ b1.toNat / 64 = ch.val ∧
        b1.toNat % 16 = tag.val ∧ b1.getLsbD 4 = false ∧
        match r.reply with
        | .ack => b0 = 0x80#8 ∧ b1.getLsbD 5 = false ∧ b2 = 0x00#8 ∧ tail = []
        | .nak why => b0 = 0x81#8 ∧ b1.getLsbD 5 = false ∧ b2 = why.code ∧ tail = []
        | .data ws =>
          b0 = 0x82#8 ∧ b1.getLsbD 5 = true ∧ b2.toNat = ws.length % 256 ∧ tail.length = 4 * ws.length + 2 ∧
            (∀ i (h : i < ws.length), (tail.drop (4 * i)).take 4 = bytesOf ws[i]) ∧
            ∃ c0 c1, tail.drop (4 * ws.length) = [c0, c1] ∧ c0 ++ c1 = crc16 (tail.take (4 * ws.length)))

/-- R139, R151: a failed header check raises the header-error count, which stays at 255, sets LINK_ERROR, makes no response and sends
the assembler to IGNORE for the rest of the transfer period. -/
def Obligations.HeaderCheckFailureIgnoresTheRest : Prop :=
  ∀ s : State, s.resetn = true →
    ∃ t, exec .headerCheckFailure s = .next t ∧ EventSet.has t.events .linkError = true ∧
      (∀ e, e ≠ .linkError → EventSet.has t.events e = EventSet.has s.events e) ∧
      t.slc.headerErrors.toNat = min 255 (s.slc.headerErrors.toNat + 1) ∧
      (s.slc.assembler ≠ .idle → t.slc.assembler = .ignore) ∧
      t = { s with
            events := t.events
            slc := { s.slc with assembler := t.slc.assembler, headerErrors := t.slc.headerErrors } }

/-- R140, R141, R144, R148: a frame the link refused is answered with its NAK, and nothing else changes but the assembler: it returns from
the frame to FRAME_START, and after a word count out of range it ignores the rest of the transfer period. That the rows answer with
no transfer period in progress, and leave an assembler that is in no frame as it is, is the model's choice (log entry 6). -/
def Obligations.RefusedFramesAreAnswered : Prop :=
  ∀ (ch : Channel) (tag : Tag) (s : State), s.LinkReady →
    let ended : State :=
      { s with
        slc :=
          { s.slc with
            assembler :=
              match s.slc.assembler with
              | .header _ | .payload _ _ => .frameStart
              | x => x } }
    exec (.frameFormRefusal ch tag .reservedBit) s = .next (ended.answered ch tag (.nak .length)) ∧
    exec (.payloadCheckFailure ch tag) s = .next (ended.answered ch tag (.nak .check)) ∧
    (s.slc.assembler ≠ .idle → exec (.frameFormRefusal ch tag .wordCount) s =
      .next ({ s with slc := { s.slc with assembler := .ignore } }.answered ch tag (.nak .length))) ∧
    (s.slc.assembler = .idle → exec (.frameFormRefusal ch tag .wordCount) s = .next (s.answered ch tag (.nak .length)))

/-- R140, R141, R143, R144: with all eight places taken every complete frame, of a known kind, of another, or one the link refuses, is
discarded with LINK_OVERRUN; behind a WIPE that waits for a line to end, with a place free, it claims its place at the tail and
waits. Nothing else changes but the assembler: it returns from a refused frame to FRAME_START, and after a word count out of range
it ignores the rest of the transfer period (and where it is in no frame or period it stays: log entry 6). -/
def Obligations.FramesClaimPlaces : Prop :=
  ∀ (k : Kind) (kind : Byte) (ch : Channel) (tag : Tag) (body : FrameBody) (s : State), s.resetn = true →
    let ended : State :=
      { s with
        slc :=
          { s.slc with
            assembler :=
              match s.slc.assembler with
              | .header _ | .payload _ _ => .frameStart
              | x => x } }
    let ignoring : State :=
      { s with slc := { s.slc with assembler := if s.slc.assembler = .idle then .idle else .ignore } }
    (8 ≤ s.slc.responses.length →
      let overrun (t : State) : State := { t with events := t.events ||| 0x400#11 }
      exec (commandOf k ch tag body) s = .next (overrun s) ∧
      exec (.unknownKind kind ch tag body) s = .next (overrun s) ∧
      exec (.frameFormRefusal ch tag .reservedBit) s = .next (overrun ended) ∧
      exec (.frameFormRefusal ch tag .wordCount) s = .next (overrun ignoring) ∧
      exec (.payloadCheckFailure ch tag) s = .next (overrun ended) ∧
      exec .linkOverrun s = .next (overrun s)) ∧
    (s.slc.responses.length < 8 → exec .linkOverrun s = .next s) ∧
    (s.slc.responses.length < 8 → s.slc.wipeTaken = true →
      let waiting (t : State) (q : Request) : State :=
        { t with slc := { t.slc with responses := t.slc.responses ++ [.awaiting q] } }
      exec (commandOf k ch tag body) s = .next (waiting s (.frame { kind := k.code, ch := ch, tag := tag, body := body })) ∧
      exec (.unknownKind kind ch tag body) s = .next (waiting s (.frame { kind := kind, ch := ch, tag := tag, body := body })) ∧
      exec (.frameFormRefusal ch tag .reservedBit) s = .next (waiting ended (.refused ch tag .length)) ∧
      exec (.frameFormRefusal ch tag .wordCount) s = .next (waiting ignoring (.refused ch tag .length)) ∧
      exec (.payloadCheckFailure ch tag) s = .next (waiting ended (.refused ch tag .check)))

/-- R153: a request of a known kind in a form other than the one Table 8-1 gives it is answered NAK LENGTH and changes nothing. -/
def Obligations.WrongFormIsRefusedWithLength : Prop :=
  ∀ (k : Kind) (ch : Channel) (tag : Tag) (body : FrameBody) (s : State), s.LinkReady → k.formOk body = false →
    exec (commandOf k ch tag body) s = .next (s.answered ch tag (.nak .length))

/-- R154: a request frame whose kind is not in Table 8-1 is answered NAK UNKNOWN whatever its form, and changes nothing: 00H and the
three response kinds among them. -/
def Obligations.UnknownKindIsRefused : Prop :=
  ∀ (kind : Byte) (ch : Channel) (tag : Tag) (body : FrameBody) (s : State), s.LinkReady →
    (kind ∉ catalogue → exec (.unknownKind kind ch tag body) s = .next (s.answered ch tag (.nak .unknown))) ∧
    0x00#8 ∉ catalogue ∧ 0x80#8 ∉ catalogue ∧ 0x81#8 ∉ catalogue ∧ 0x82#8 ∉ catalogue ∧
    (s.slc.assembler = .frameStart → exec (.byteReceived 0xFF#8) s = .next s)

/-! ## The request kinds -/

/-- R158: IDENT answers the three words of Table 8-9 whatever the part's state, on every channel, and changes nothing else. -/
def Obligations.IdentAnswersTheCapacities : Prop :=
  ∀ (ch : Channel) (tag : Tag) (s : State), s.LinkReady →
    (∀ a, exec (.ident ch tag (.short a)) s =
      .next (s.answered ch tag (.data [0x47224003#32, 0x10082004#32, 0x02000000#32]))) ∧
    (∀ ws, exec (.ident ch tag (.long ws)) s = .next (s.answered ch tag (.nak .length)))

/-- R159 and Table 8-10: STATUS answers five words, every field at its place, and changes nothing else. -/
def Obligations.StatusReportsTheDevice : Prop :=
  ∀ (ch : Channel) (tag : Tag) (a : Byte) (s : State), s.LinkReady → s.QueueLaw → s.LogLaw → s.StoreWf →
    ∃ w0 w1 w2 w4 : Word,
      exec (.status ch tag (.short a)) s = .next (s.answered ch tag (.data [w0, w1, w2, s.chain, w4])) ∧
      w0.toNat = s.events.toNat * 2 ^ 16 + s.config.eventMask.toNat ∧
      w1.toNat =
        (match s.queue with
          | r :: _ => if r.isDraining then r.seq.toNat else 0
          | [] => 0) * 2 ^ 16 + (512 - s.slots.length) ∧
      w2.toNat = s.drain.frameCount.toNat * 2 ^ 16 + s.queue.length * 2 ^ 8 + s.log.records.length ∧
      w4.toNat =
        s.slc.headerErrors.toNat * 2 ^ 24 +
          (match s.drain.phase with
            | .closed => 0
            | .quiet => 1
            | .forced => 2) * 2 ^ 20 +
          (match s.drain.activity with
            | .idle => 0
            | .waitLog => 1
            | .writing _ => 2
            | .held => 3) * 2 ^ 16 +
          (match s.hpi.held with
            | none => 0
            | some h => if h.reason = .stall then 1 else 2) * 2 ^ 8

/-- R161: CONFIG_GET answers the record as it stands in the layout of Table 8-8 and changes nothing else; one that follows a CONFIG_SET
answers the words that CONFIG_SET wrote, or the earlier record if it was refused. -/
def Obligations.ConfigGetReturnsTheRecord : Prop :=
  ∀ (ch : Channel) (tag : Tag) (a : Byte) (s : State), s.LinkReady →
    (∃ w0 w1 w2 : Word, exec (.configGet ch tag (.short a)) s = .next (s.answered ch tag (.data [w0, w1, w2])) ∧
      w0.toNat = s.config.budget.toNat * 2 ^ 16 + s.config.starvationLimit.toNat ∧
      w1.toNat = s.config.stallLimit.toNat * 2 ^ 16 + s.config.forceEnable.toNat ∧ w2.toNat = s.config.eventMask.toNat) ∧
    (∀ (ch' : Channel) (tag' : Tag) (w0 w1 w2 : Word), s.slc.responses.length < 7 →
      ∃ t reply, exec (.configSet ch' tag' (.long [w0, w1, w2])) s = .next t ∧
        t.slc.responses = s.slc.responses ++ [.filled { ch := ch', tag := tag', reply := reply }] ∧
        (reply = .ack → exec (.configGet ch tag (.short a)) t = .next (t.answered ch tag (.data [w0, w1, w2]))) ∧
        (reply ≠ .ack → t = s.answered ch' tag' reply))

/-- R162: CONFIG_SET is refused with RANGE, and then with OVERSIZE, under the rule's conditions, and a refused one changes no field; any
other is accepted with ACK, from every channel. -/
def Obligations.ConfigSetIsChecked : Prop :=
  ∀ (ch : Channel) (tag : Tag) (w0 w1 w2 : Word) (s : State), s.LinkReady →
    (w0.toNat / 2 ^ 16 = 0 ∨ w1.toNat / 2 ^ 16 = 0 ∨ w1.toNat % 2 ^ 16 / 2 ≠ 0 ∨ w2.toNat / 2 ^ 11 ≠ 0 →
      exec (.configSet ch tag (.long [w0, w1, w2])) s = .next (s.answered ch tag (.nak .range))) ∧
    (w0.toNat / 2 ^ 16 ≠ 0 → w1.toNat / 2 ^ 16 ≠ 0 → w1.toNat % 2 ^ 16 / 2 = 0 → w2.toNat / 2 ^ 11 = 0 →
      ((∃ r ∈ s.queue, r.strict = true ∧ w0.toNat / 2 ^ 16 * 64 < r.bytes) →
        exec (.configSet ch tag (.long [w0, w1, w2])) s = .next (s.answered ch tag (.nak .oversize))) ∧
      ((∀ r ∈ s.queue, r.strict = true → r.bytes ≤ w0.toNat / 2 ^ 16 * 64) →
        ∃ t, exec (.configSet ch tag (.long [w0, w1, w2])) s = .next t ∧
          t.slc.responses = s.slc.responses ++ [.filled { ch := ch, tag := tag, reply := .ack }]))

/-- R99, R111, R163: what an accepted CONFIG_SET changes: the whole record; phase FORCED, and with it WAIT_LOG, when force enable is
cleared, with SPANNED on a batch cut between lines; the starvation timer when its limit becomes 0; and then, when a limit that has
changed is at or below the elapsed time, the expiry of that timer, its elapsed time kept. Nothing else. (Of two expiries the starvation
timer's comes first: log entry 18.) -/
def Obligations.ConfigSetReplacesTheRecord : Prop :=
  ∀ (ch : Channel) (tag : Tag) (c : ConfigRecord) (s : State), s.LinkReady → s.PortSettled →
    c.budget ≠ 0#16 → c.stallLimit ≠ 0#16 → (∀ r ∈ s.queue, r.strict = true → r.bytes ≤ c.budget.toNat * 64) →
    let ends : Bool := !c.forceEnable && decide (s.drain.phase = .forced)
    let cut : Bool := ends && s.lineInProgress.any s.linesLeft
    let t : State :=
      { s with
        config := c
        queue := if cut then s.queue.modifyHead (fun r => { r with flags := { r.flags with spanned := true } }) else s.queue
        drain :=
          { s.drain with
            phase := if ends then .closed else s.drain.phase
            activity := if ends = true ∧ s.drain.activity = .waitLog then .idle else s.drain.activity
            timer :=
              if c.starvationLimit = 0#16 then { expired := false, elapsed := 0, micros := 0 } else s.drain.timer } }
    ∃ u,
      execAll
        (if c.starvationLimit ≠ 0#16 ∧ c.starvationLimit ≠ s.config.starvationLimit ∧
            c.starvationLimit.toNat ≤ s.drain.timer.elapsed then [.starvationTimerExpiry] else []) t = .next u ∧
      ∃ v,
        execAll
          (if c.stallLimit ≠ s.config.stallLimit ∧ u.hpi.held.any (fun h => decide (c.stallLimit.toNat ≤ h.elapsed)) = true then
            [.stallLimitExpiry] else []) u = .next v ∧
        exec (.configSet ch tag (.long [c.budget ++ c.starvationLimit, c.stallLimit ++ 0#15 ++ BitVec.ofBool c.forceEnable,
          0#21 ++ c.eventMask])) s = .next (v.answered ch tag .ack)

/-- R132, R149, R173: SET_LIMIT sets the return limit of its own channel to 8 to 64 words; SIG_RESET clears the chain signature;
EVENT_ACK clears the events its payload names; each is answered and changes nothing else, and an operand out of range is refused. -/
def Obligations.LimitSignatureAndEventRequests : Prop :=
  ∀ (ch : Channel) (tag : Tag) (a : Byte) (w : Word) (s : State), s.LinkReady →
    (a.toNat < 8 ∨ 64 < a.toNat → exec (.setLimit ch tag (.short a)) s = .next (s.answered ch tag (.nak .range))) ∧
    (8 ≤ a.toNat → a.toNat ≤ 64 →
      exec (.setLimit ch tag (.short a)) s =
        .next ({ s with slc := { s.slc with limits := s.slc.limits.set ch.val a.toNat ch.isLt } }.answered ch tag .ack)) ∧
    exec (.sigReset ch tag (.short a)) s = .next ({ s with chain := 0#32 }.answered ch tag .ack) ∧
    (w.toNat / 2 ^ 11 ≠ 0 → exec (.eventAck ch tag (.long [w])) s = .next (s.answered ch tag (.nak .range))) ∧
    (w.toNat / 2 ^ 11 = 0 → ∃ events : EventSet,
      exec (.eventAck ch tag (.long [w])) s = .next ({ s with events := events }.answered ch tag .ack) ∧
      ∀ e : Event, EventSet.has events e = (EventSet.has s.events e && !w.getLsbD e.bit))

/-- R150: RESYNC empties every place ahead of its own, clears the header-error count, leaves its ACK alone in the queue to be sent from its
first byte, and sends fill until the end of a transfer period in progress. Nothing else changes: that the assembler stays where it is,
at FRAME_START or not, is the model's choice (log entries 6 and 19). -/
def Obligations.ResyncEmptiesTheQueue : Prop :=
  ∀ (ch : Channel) (tag : Tag) (a : Byte) (s : State), s.LinkReady →
    exec (.resync ch tag (.short a)) s =
      .next
        { s with
          slc :=
            { s.slc with
              responses := [.filled { ch := ch, tag := tag, reply := .ack }]
              txPos := 0
              txFill := decide (s.slc.assembler ≠ .idle)
              headerErrors := 0#8 } }

/-- R71, R117, R124, R165 to R167: a WIPE taken with no line in progress has its effect at once: every window, slot and batch gone, a
WIPED record for a stopped batch, a held beat answered ERROR, the drain engine idle and out of phase FORCED with its timer cleared,
and the three counts answered. All else is kept. -/
def Obligations.WipeEmptiesThePart : Prop :=
  ∀ (ch : Channel) (tag : Tag) (a : Byte) (s : State), s.LinkReady → s.lineInProgress = none → s.QueueLaw → s.StoreWf →
    let stopped (r : BatchRecord) (f : DrainFields) : CompletionRecord :=
      { seq := r.seq, mask := memberMask r.members, outcome := .wiped, flags := { r.flags with cut := true },
        intervals := r.intervals, lines := f.lines, frameCount := s.drain.frameCount, bytes := f.bytes,
        signature := f.crc ^^^ 0xFFFFFFFF#32 }
    let t : State :=
      { s with
        windows := Vector.replicate 16 .free
        slots := []
        queue := []
        log :=
          match s.drainingHead with
          | some (r, f) => { records := s.log.records ++ [stopped r f], reserved := false }
          | none => s.log
        hpi :=
          match s.hpi.txn with
          | some x =>
            match x.beat with
            | .held _ => s.hpi.afterBeat x { err := true, data := none }
            | _ => s.hpi
          | none => s.hpi
        drain :=
          { s.drain with
            phase := if s.drain.phase = .forced then .closed else s.drain.phase
            activity := .idle
            begun := false
            timer := { expired := false, elapsed := 0, micros := 0 } } }
    ∃ w : Word,
      w.toNat = s.queue.countP BatchRecord.isQueued * 2 ^ 24 + s.slots.length * 2 ^ 8 +
        allWindows.countP (fun v => s.win v ≠ .free) ∧
      exec (.wipe ch tag (.short a)) s = .next (t.answered ch tag (.data [w]))

/-- R144, R165: a WIPE taken during a line waits, AWAITING, and changes nothing else yet; once no line is in progress its effect is that of
a WIPE taken at that moment, after which the requests that claimed places behind it are taken in their order; and where no WIPE waits, or a line is in progress, WIPE_EFFECT changes nothing. -/
def Obligations.WipeWaitsForTheLine : Prop :=
  (∀ (ch : Channel) (tag : Tag) (a : Byte) (s : State), s.LinkReady → s.lineInProgress.isSome = true →
    exec (.wipe ch tag (.short a)) s =
      .next
        { s with
          slc :=
            { s.slc with
              responses := s.slc.responses ++
                [.awaiting (.frame { kind := 0x05#8, ch := ch, tag := tag, body := .short a })]
              wipeTaken := true } }) ∧
  (∀ (ch : Channel) (tag : Tag) (a : Byte) (ahead : List Place) (behind : List Request) (s : State),
    s.resetn = true → s.PortSettled → s.slc.wipeTaken = true → s.lineInProgress = none → firstAwaiting ahead = none →
    ahead.length + behind.length < 8 → (∀ q ∈ behind, q.standsFor s.slc.assembler = true) →
    s.slc.responses =
        ahead ++ .awaiting (.frame { kind := 0x05#8, ch := ch, tag := tag, body := .short a }) :: behind.map .awaiting →
      ∃ t, exec .wipeEffect s = .next t ∧
        execAll (.wipe ch tag (.short a) :: behind.map Request.command)
          { s with slc := { s.slc with responses := ahead, wipeTaken := false } } = .next t) ∧
  (∀ s : State, s.slc.wipeTaken = false ∨ s.lineInProgress.isSome = true → exec .wipeEffect s = .next s)

/-- R9 to R12: WIN_DEFINE, from the words of its payload: RANGE on any field out of range, then ALIGN, then STATE for a window that is not
FREE, then OVERLAP with the span of any window that is not FREE; otherwise the window becomes IDLE at epoch 0 with its fields as given
and the requester its owner, and nothing else changes. -/
def Obligations.WinDefineIsCheckedAndTaken : Prop :=
  ∀ (ch : Channel) (tag : Tag) (w0 w1 w2 w3 w4 : Word) (s : State), s.LinkReady →
    let request : Instr := .winDefine ch tag (.long [w0, w1, w2, w3, w4])
    let window := w0.toNat / 2 ^ 24
    let shape := w0.toNat / 2 ^ 16 % 2 ^ 8
    let policy := w0.toNat / 2 ^ 8 % 2 ^ 8
    let mode := w0.toNat % 2 ^ 8
    let quota := w1.toNat / 2 ^ 16
    let height := w1.toNat % 2 ^ 16
    let base := w2.toNat
    let length := w3.toNat
    let pitch := w4.toNat / 2 ^ 16
    let width := w4.toNat % 2 ^ 16
    let outOfRange :=
      15 < window ∨ (shape ≠ 1 ∧ shape ≠ 2) ∨ (policy ≠ 1 ∧ policy ≠ 2 ∧ policy ≠ 3) ∨ (mode ≠ 1 ∧ mode ≠ 2) ∨
      quota = 0 ∨ 512 < quota ∨ 0xFFFFFF < base ∨
      (shape = 1 ∧ (length < 4 ∨ 16777216 < length ∨ 0x1000000 < base + length)) ∨
      (shape = 2 ∧ (pitch < 4 ∨ 65532 < pitch ∨ width < 4 ∨ pitch < width ∨ height = 0 ∨ 4096 < height ∨
        0xFFFFFF < base + (height - 1) * pitch + width - 1))
    let misaligned := base % 4 ≠ 0 ∨ (shape = 1 ∧ length % 4 ≠ 0) ∨ (shape = 2 ∧ (pitch % 4 ≠ 0 ∨ width % 4 ≠ 0))
    let last := if shape = 1 then base + length - 1 else base + (height - 1) * pitch + width - 1
    let d : WindowDef :=
      { owner := ch
        geometry := if shape = 1 then .linear base length else .rect base pitch width height
        policy := if policy = 1 then .stall else if policy = 2 then .pass else .drop
        mode := if mode = 1 then .strict else .span
        quota := quota }
    (outOfRange → exec request s = .next (s.answered ch tag (.nak .range))) ∧
    (¬outOfRange → misaligned → exec request s = .next (s.answered ch tag (.nak .align))) ∧
    (∀ w : WindowNo, w.val = window → ¬outOfRange → ¬misaligned →
      (s.win w ≠ .free → exec request s = .next (s.answered ch tag (.nak .state))) ∧
      (s.win w = .free → (∃ v, ∃ x ∈ (s.win v).definition, base ≤ x.geometry.span.2 ∧ x.geometry.span.1 ≤ last) →
        exec request s = .next (s.answered ch tag (.nak .overlap))) ∧
      (s.win w = .free → (∀ v, ∀ x ∈ (s.win v).definition, ¬(base ≤ x.geometry.span.2 ∧ x.geometry.span.1 ≤ last)) →
        exec request s = .next ((s.setWin w (.idle d 0)).answered ch tag .ack)))

/-- R13, R20: WIN_START and WIN_RELEASE: RANGE for an argument above 15, OWNER for another channel's window, STATE for a window that is
not IDLE; otherwise the window becomes CAPTURING with a new open group at its epoch, or FREE, and nothing else changes. -/
def Obligations.WinStartAndWinRelease : Prop :=
  ∀ (ch : Channel) (tag : Tag) (a : Byte) (s : State), s.LinkReady →
    (15 < a.toNat →
      exec (.winStart ch tag (.short a)) s = .next (s.answered ch tag (.nak .range)) ∧
      exec (.winRelease ch tag (.short a)) s = .next (s.answered ch tag (.nak .range))) ∧
    (∀ w : WindowNo, w.val = a.toNat →
      ((∃ d ∈ (s.win w).definition, d.owner ≠ ch) →
        exec (.winStart ch tag (.short a)) s = .next (s.answered ch tag (.nak .owner)) ∧
        exec (.winRelease ch tag (.short a)) s = .next (s.answered ch tag (.nak .owner))) ∧
      ((∀ d ∈ (s.win w).definition, d.owner = ch) → (∀ d e, s.win w ≠ .idle d e) →
        exec (.winStart ch tag (.short a)) s = .next (s.answered ch tag (.nak .state)) ∧
        exec (.winRelease ch tag (.short a)) s = .next (s.answered ch tag (.nak .state))) ∧
      (∀ d e, s.win w = .idle d e → d.owner = ch →
        exec (.winStart ch tag (.short a)) s =
          .next ((s.setWin w (.capturing d e 0
            { lines := 0, bytes := 0, flags := { writeLost := false, writeBypassed := false } })).answered ch tag .ack) ∧
        exec (.winRelease ch tag (.short a)) s = .next ((s.setWin w .free).answered ch tag .ack)))

/-- R21 and Table 8-11: WIN_QUERY: RANGE for an argument above 15; otherwise, from every channel, the six words of the entry, a field
absent in its state as zero, and nothing else changes. That the number of a FREE window is reported is the model's choice (log entry
16). -/
def Obligations.WinQueryReportsTheEntry : Prop :=
  ∀ (ch : Channel) (tag : Tag) (a : Byte) (s : State), s.LinkReady →
    (15 < a.toNat → exec (.winQuery ch tag (.short a)) s = .next (s.answered ch tag (.nak .range))) ∧
    (∀ w : WindowNo, w.val = a.toNat →
      let defined (state bypassed lost : Nat) (e : Epoch) (d : WindowDef) : List Nat :=
        let word0 (shape : Nat) : Nat :=
          w.val * 2 ^ 24 + state * 2 ^ 20 + bypassed * 2 ^ 17 + lost * 2 ^ 16 + e.toNat * 2 ^ 8 + d.owner.val * 2 ^ 6 +
            shape * 2 ^ 4 +
            (match d.policy with
              | .stall => 1
              | .pass => 2
              | .drop => 3) * 2 ^ 2 +
            (match d.mode with
              | .strict => 1
              | .span => 2)
        match d.geometry with
        | .linear base length => [word0 1, base % 2 ^ 32, length % 2 ^ 32, d.quota % 2 ^ 16]
        | .rect base pitch width height =>
          [word0 2, base % 2 ^ 32, pitch % 2 ^ 16 * 2 ^ 16 + width % 2 ^ 16, height % 2 ^ 16 * 2 ^ 16 + d.quota % 2 ^ 16]
      ∃ ws : List Word, exec (.winQuery ch tag (.short a)) s = .next (s.answered ch tag (.data ws)) ∧
        ws.map BitVec.toNat =
          match s.win w with
          | .free => [w.val * 2 ^ 24, 0, 0, 0, 0, 0]
          | .idle d e => defined 1 0 0 e d ++ [0, 0]
          | .capturing d e held g =>
            defined 2 g.flags.writeBypassed.toNat g.flags.writeLost.toNat e d ++
              [held % 2 ^ 16 * 2 ^ 16 + g.lines % 2 ^ 16, g.bytes % 2 ^ 16 * 2 ^ 16]
          | .retiring d e held q => defined 3 0 0 e d ++ [held % 2 ^ 16 * 2 ^ 16, q.toNat])

/-- R14: the epoch counter advances to the next value in cyclic order that no group of the window in the queue has, within nine steps. -/
def Obligations.EpochAdvancePassesOver : Prop :=
  ∀ (s : State) (w : WindowNo) (e : Epoch), s.queue.length ≤ 8 →
    ∃ k, 1 ≤ k ∧ k ≤ 9 ∧ s.nextEpoch w e = e + BitVec.ofNat 8 k ∧
      (∀ r ∈ s.queue, ∀ m ∈ r.members.find? (·.window = w), m.epoch ≠ s.nextEpoch w e) ∧
      ∀ j, 1 ≤ j → j < k → ∃ r ∈ s.queue, ∃ m ∈ r.members.find? (·.window = w), m.epoch = e + BitVec.ofNat 8 j

/-- R44, R62, R63: WIN_ABORT: RANGE, OWNER, STATE; otherwise the window's OPEN slots are freed, its group is dropped and a new one opens at
the advanced epoch; and, when a slot was freed, a beat held under STALL is re-offered. Nothing else changes. -/
def Obligations.WinAbortDiscardsTheOpenGroup : Prop :=
  ∀ (ch : Channel) (tag : Tag) (a : Byte) (s : State), s.LinkReady →
    (15 < a.toNat → exec (.winAbort ch tag (.short a)) s = .next (s.answered ch tag (.nak .range))) ∧
    (∀ w : WindowNo, w.val = a.toNat →
      ((∃ d ∈ (s.win w).definition, d.owner ≠ ch) →
        exec (.winAbort ch tag (.short a)) s = .next (s.answered ch tag (.nak .owner))) ∧
      ((∀ d ∈ (s.win w).definition, d.owner = ch) → (s.win w).isCapturing = false →
        exec (.winAbort ch tag (.short a)) s = .next (s.answered ch tag (.nak .state))) ∧
      (∀ d e held g, s.win w = .capturing d e held g → d.owner = ch → s.PortSettled →
        let freed := s.slots.countP fun x => x.status = .opened && x.window = w
        let t : State :=
          { s with
            slots := s.slots.filter fun x => !(x.status = .opened && x.window = w)
            windows := s.windows.set w.val
              (.capturing d (s.nextEpoch w e) (held - freed)
                { lines := 0, bytes := 0, flags := { writeLost := false, writeBypassed := false } }) w.isLt }
        ∃ u, execAll (if 0 < freed then [.heldBeatRetry] else []) t = .next u ∧
          exec (.winAbort ch tag (.short a)) s = .next (u.answered ch tag .ack)))

/-- R51, R52, R157: CLOSE is refused with the first of RANGE, OWNER, STATE, FULL and OVERSIZE whose condition holds, each tested over every
window of the mask before the next; a refused CLOSE changes nothing. -/
def Obligations.CloseIsChecked : Prop :=
  ∀ (ch : Channel) (tag : Tag) (w0 : Word) (s : State), s.LinkReady →
    let request : Instr := .close ch tag (.long [w0])
    let outOfRange := w0.toNat % 2 ^ 16 = 0 ∨ w0.toNat / 2 ^ 17 ≠ 0
    let foreign := ∃ w : WindowNo, w0.getLsbD w.val = true ∧ ∃ d ∈ (s.win w).definition, d.owner ≠ ch
    let notCapturing := ∃ w : WindowNo, w0.getLsbD w.val = true ∧ (s.win w).isCapturing = false
    let full := 8 ≤ s.queue.length
    let bytes := (allWindows.map fun w =>
      if w0.getLsbD w.val then
        (match s.win w with
          | .capturing _ _ _ g => g.bytes
          | _ => 0)
      else 0).sum
    let oversize :=
      (∃ w : WindowNo, w0.getLsbD w.val = true ∧ ∃ d ∈ (s.win w).definition, d.mode = .strict) ∧
        s.config.budget.toNat * 64 < bytes
    (outOfRange → exec request s = .next (s.answered ch tag (.nak .range))) ∧
    (¬outOfRange → foreign → exec request s = .next (s.answered ch tag (.nak .owner))) ∧
    (¬outOfRange → ¬foreign → notCapturing → exec request s = .next (s.answered ch tag (.nak .state))) ∧
    (¬outOfRange → ¬foreign → ¬notCapturing → full → exec request s = .next (s.answered ch tag (.nak .full))) ∧
    (¬outOfRange → ¬foreign → ¬notCapturing → ¬full → oversize → exec request s = .next (s.answered ch tag (.nak .oversize)))

/-- R16, R48 to R50, R53, R54, R61, R83: an accepted CLOSE: the record it forms at the tail, the sequence counter, the slots QUEUED, the
windows with a new open group or RETIRING, and the sequence number answered; into an empty queue, the starvation timer is cleared
and the batch may start at once. Nothing else changes. -/
def Obligations.CloseFormsTheBatch : Prop :=
  ∀ (ch : Channel) (tag : Tag) (w0 : Word) (s : State), s.LinkReady →
    w0.toNat % 2 ^ 16 ≠ 0 → w0.toNat / 2 ^ 17 = 0 →
    (∀ w : WindowNo, w0.getLsbD w.val = true → (s.win w).isCapturing = true ∧ ∀ d ∈ (s.win w).definition, d.owner = ch) →
    s.queue.length < 8 →
    let named (w : WindowNo) : Bool := w0.getLsbD w.val
    let retire : Bool := w0.getLsbD 16
    let groups := (allWindows.filter named).filterMap fun w => (s.win w).openGroup.map fun p => (w, p.1, p.2)
    let bytes := (groups.map fun p => p.2.2.bytes).sum
    let strict : Bool := allWindows.any fun w => named w && (s.win w).definition.any fun d => d.mode = .strict
    (strict = true → bytes ≤ s.config.budget.toNat * 64) →
    let r : BatchRecord :=
      { seq := s.nextSeq
        members := groups.map fun p => { window := p.1, epoch := p.2.1 }
        lines := (groups.map fun p => p.2.2.lines).sum
        bytes := bytes
        strict := strict
        retireSet := if retire then allWindows.filter named else []
        state := .queued
        flags :=
          { spanned := false, forced := false, memError := false, cut := false
            writeLost := groups.any fun p => p.2.2.flags.writeLost
            writeBypassed := groups.any fun p => p.2.2.flags.writeBypassed }
        intervals := 0 }
    let queue := s.queue ++ [r]
    let t : State :=
      { s with
        nextSeq := if s.nextSeq = 0xFFFF#16 then 1#16 else s.nextSeq + 1
        slots := s.slots.map fun x => if x.status = .opened && named x.window then { x with status := .queued } else x
        queue := queue
        windows := Vector.ofFn fun w =>
          if named w then
            (match s.win w with
              | .capturing d e held _ =>
                if retire then .retiring d ({ s with queue := queue }.nextEpoch w e) held s.nextSeq
                else .capturing d ({ s with queue := queue }.nextEpoch w e) held
                  { lines := 0, bytes := 0, flags := { writeLost := false, writeBypassed := false } }
              | x => x)
          else s.win w }
    ∃ w : Word, w.toNat = s.nextSeq.toNat ∧
      (s.queue ≠ [] → exec (.close ch tag (.long [w0])) s = .next (t.answered ch tag (.data [w]))) ∧
      (s.queue = [] → s.drain.activity = .idle → s.PortSettled →
        ∃ u, exec .drainStart { t with drain := { t.drain with timer := { expired := false, elapsed := 0, micros := 0 } } } =
            .next u ∧
          exec (.close ch tag (.long [w0])) s = .next (u.answered ch tag (.data [w])))

/-- R65, R157: CANCEL is refused with the first of RANGE, FULL, BUSY and NOTFOUND whose condition holds, from every channel, and a refused
CANCEL changes nothing. -/
def Obligations.CancelIsChecked : Prop :=
  ∀ (ch : Channel) (tag : Tag) (w0 : Word) (s : State), s.LinkReady →
    let request : Instr := .cancel ch tag (.long [w0])
    let outOfRange := w0.toNat % 2 ^ 16 = 0 ∨ w0.toNat / 2 ^ 16 ≠ 0
    let full := 32 ≤ s.log.records.length + s.log.reserved.toNat
    (outOfRange → exec request s = .next (s.answered ch tag (.nak .range))) ∧
    (¬outOfRange → full → exec request s = .next (s.answered ch tag (.nak .full))) ∧
    (∀ r, s.queue.find? (fun x => x.seq.toNat = w0.toNat) = some r → ¬outOfRange → ¬full → r.isDraining = true →
      exec request s = .next (s.answered ch tag (.nak .busy))) ∧
    (¬outOfRange → ¬full → (∀ r ∈ s.queue, r.seq.toNat ≠ w0.toNat) →
      exec request s = .next (s.answered ch tag (.nak .notFound)))

/-- R18, R43, R61, R66, R67, R98, R123: an accepted CANCEL: the record out of the queue, its slots freed, its CANCELLED record posted, its
retire notices sent, a forced stretch ended when the queue is empty; then the retry of a STALL beat when a slot was freed, the
release of a beat whose window became IDLE, and the start of a new head, whose requests join the port together: a free port takes
one of them by turn (R115). In WAIT_LOG every CANCEL is refused with FULL. -/
def Obligations.CancelRemovesTheBatch : Prop :=
  ∀ (ch : Channel) (tag : Tag) (w0 : Word) (r : BatchRecord) (s : State), s.LinkReady → s.PortSettled →
    w0.toNat % 2 ^ 16 ≠ 0 → w0.toNat / 2 ^ 16 = 0 → s.log.records.length + s.log.reserved.toNat < 32 →
    s.queue.find? (fun x => x.seq.toNat = w0.toNat) = some r → r.isDraining = false → s.drain.activity ≠ .waitLog →
    let inBatch (x : Slot) : Bool := r.members.any fun m => x.window = m.window && x.epoch = m.epoch
    let queue := s.queue.eraseP fun x => x.seq.toNat = w0.toNat
    let held (w : WindowNo) (n : Nat) : Nat := n - s.slots.countP fun x => inBatch x && x.window = w
    let t : State :=
      { s with
        queue := queue
        slots := s.slots.filter fun x => !inBatch x
        log :=
          { records := s.log.records ++
              [{ seq := r.seq, mask := memberMask r.members, outcome := .cancelled
                 flags := { r.flags with spanned := false, forced := false, memError := false, cut := false }
                 intervals := 0, lines := r.lines, frameCount := s.drain.frameCount, bytes := r.bytes, signature := 0 }]
            reserved := s.log.reserved }
        windows := Vector.ofFn fun w =>
          match s.win w with
          | .capturing d e n g => .capturing d e (held w n) g
          | .retiring d e n q =>
            if (r.members.any fun m => m.window = w) && q = r.seq then
              match (queueGroups queue w).getLast? with
              | some p => .retiring d e (held w n) p.1
              | none => .idle d e
            else .retiring d e (held w n) q
          | x => x
        drain := { s.drain with phase := if queue = [] ∧ s.drain.phase = .forced then .closed else s.drain.phase } }
    ∃ u,
      execAll ((if s.slots.any inBatch then [.heldBeatRetry] else []) ++ [.heldBeatRelease] ++
        (if s.queue.head? = some r then [.drainStart] else [])) t.portTaken = .next u ∧
      exec (.cancel ch tag (.long [w0])) s = .next ((u.thenGranted s.mpa.port).answered ch tag .ack)

/-- R84, R125 and Tables 8-12 and 8-13: LOG_READ: RANGE for a count of 0 or above 12; otherwise the n oldest records leave the log and are
answered behind n, where n is the least of the count, what the channel's limit admits and the log count; an engine in WAIT_LOG
tests its start conditions when n is at least 1. Nothing else changes. The layout of a record is its second part, and the third that
bit w of a member mask names window w. -/
def Obligations.LogReadReturnsTheOldest : Prop :=
  (∀ (ch : Channel) (tag : Tag) (a : Byte) (s : State), s.LinkReady →
    (a.toNat = 0 ∨ 12 < a.toNat → exec (.logRead ch tag (.short a)) s = .next (s.answered ch tag (.nak .range))) ∧
    (1 ≤ a.toNat → a.toNat ≤ 12 →
      let n := min a.toNat (min ((s.slc.limits[ch.val] - 1) / 5) s.log.records.length)
      let t : State := { s with log := { s.log with records := s.log.records.drop n } }
      let reply : Reply := .data (BitVec.ofNat 32 n :: (s.log.records.take n).flatMap CompletionRecord.toWords)
      (s.drain.activity ≠ .waitLog ∨ n = 0 → exec (.logRead ch tag (.short a)) s = .next (t.answered ch tag reply)) ∧
      (s.drain.activity = .waitLog → 1 ≤ n → s.PortSettled →
        (t.startable = true → ∃ u, exec .drainStart t = .next u ∧
          exec (.logRead ch tag (.short a)) s = .next (u.answered ch tag reply)) ∧
        (t.startable = false → exec (.logRead ch tag (.short a)) s =
          .next ({ t with drain := { t.drain with activity := .idle } }.answered ch tag reply))))) ∧
  (∀ r : CompletionRecord, r.lines ≤ 512 → r.bytes ≤ 16384 → ∃ w0 w1 w2 w3, r.toWords = [w0, w1, w2, w3, r.signature] ∧
    w0.toNat = r.seq.toNat * 2 ^ 16 + r.mask.toNat ∧
    w1.toNat =
      (match r.outcome with
        | .drained => 1
        | .cancelled => 2
        | .wiped => 3) * 2 ^ 24 +
        (r.flags.spanned.toNat + r.flags.forced.toNat * 2 + r.flags.writeLost.toNat * 4 + r.flags.writeBypassed.toNat * 8 +
          r.flags.memError.toNat * 16 + r.flags.cut.toNat * 32) * 2 ^ 16 + r.intervals.toNat * 2 ^ 8 ∧
    w2.toNat = r.lines * 2 ^ 16 + r.frameCount.toNat ∧ w3.toNat = r.bytes) ∧
  (∀ (ms : List Member) (w : WindowNo), (memberMask ms).getLsbD w.val = true ↔ ∃ m ∈ ms, m.window = w)

/-! ## The host port -/

/-- R103, R104: a request is taken when no transaction is in progress and waits otherwise; a beat that is not the next of a transaction of
its direction is not taken. -/
def Obligations.HostRequestIsTakenOrWaits : Prop :=
  ∀ (adr : BitVec 22) (wr : Bool) (cnt : BitVec 4) (wd : Word) (be : BitVec 4) (s : State), s.resetn = true →
    (s.hpi.txn = none → exec (.hostTransactionRequest adr wr cnt) s =
      .next { s with hpi := { s.hpi with txn := some { req := { adr := adr, wr := wr, cnt := cnt }, index := 0, beat := .waiting } } }) ∧
    (s.hpi.txn ≠ none → exec (.hostTransactionRequest adr wr cnt) s =
      .next { s with hpi := { s.hpi with waiting := s.hpi.waiting ++ [{ adr := adr, wr := wr, cnt := cnt }] } }) ∧
    ((∀ t ∈ s.hpi.txn, t.req.wr = false ∨ t.beat ≠ .waiting) → exec (.hostWriteBeat wd be) s = .next s) ∧
    ((∀ t ∈ s.hpi.txn, t.req.wr = true ∨ t.beat ≠ .waiting) → exec .hostReadBeat s = .next s)

/-- R6, R105: a beat at an address of no window, or of an IDLE window, goes to memory as one beat at its own address, with its strobes and
data when it is a write; nothing else changes, and its answer is memory's. -/
def Obligations.PassedBeatsGoToMemory : Prop :=
  ∀ (wd : Word) (be : BitVec 4) (t : HostTransaction) (s : State), s.resetn = true → s.PortSettled →
    s.hpi.txn = some t → t.beat = .waiting →
    let a := 4 * (t.req.adr.toNat + t.index)
    a ≤ 0xFFFFFC → (∀ w, (s.win w).contains a = true → (s.win w).isIdle = true) →
    (t.req.wr = true → exec (.hostWriteBeat wd be) s =
      .next { s with hpi := s.hpi.withBeat t .writing, mpa := s.mpa.withHostRequest (.hostWrite a be wd) }) ∧
    (t.req.wr = false → exec .hostReadBeat s =
      .next { s with
              hpi := s.hpi.withBeat t (.reading (Vector.replicate 4 none)), mpa := s.mpa.withHostRequest (.hostRead a) })

/-- R29 to R31, R106: a write beat of a CAPTURING window: with no strobe set it stages nothing; with one set it merges into the slot of its
line in the open group, or takes a new slot when one is available; in each case it is answered OKAY at once. Nothing else changes. -/
def Obligations.CapturedBeatsAreStaged : Prop :=
  ∀ (wd : Word) (be : BitVec 4) (t : HostTransaction) (w : WindowNo) (s : State), s.resetn = true → s.PortSettled → s.StoreWf →
    s.hpi.txn = some t → t.beat = .waiting → t.req.wr = true →
    let a := 4 * (t.req.adr.toNat + t.index)
    let line := a / 32 * 32
    let okay : Hpi := s.hpi.afterBeat t { err := false, data := none }
    let strobed (i : Nat) : Bool := a % 32 ≤ i && be.getLsbD (i - a % 32)
    let byte (i : Nat) : Byte := wd.extractLsb' (8 * (i - a % 32)) 8
    a ≤ 0xFFFFFC → s.windowAt a = some w →
    ∀ d e held g, s.win w = .capturing d e held g →
      (be = 0#4 → exec (.hostWriteBeat wd be) s = .next { s with hpi := okay }) ∧
      (be ≠ 0#4 → ∀ x ∈ s.slots, x.hasKey w e line = true →
        exec (.hostWriteBeat wd be) s =
          .next
            { s with
              hpi := okay
              slots := s.slots.map fun y =>
                if y.hasKey w e line then
                  { y with cells := Vector.ofFn fun i => if strobed i.val then some (byte i.val) else y.cells[i] }
                else y
              windows := s.windows.set w.val
                (.capturing d e held
                  { g with bytes := g.bytes + (List.finRange 32).countP fun i => strobed i.val && x.cells[i].isNone }) w.isLt }) ∧
      (be ≠ 0#4 → (∀ x ∈ s.slots, x.hasKey w e line = false) → s.slots.length < 512 → held < d.quota →
        let new : Slot :=
          { status := .opened, window := w, epoch := e, line := line, written := false,
            cells := Vector.ofFn fun i => if strobed i.val then some (byte i.val) else none }
        ∃ slots : List Slot, slots.Perm (new :: s.slots) ∧
          exec (.hostWriteBeat wd be) s =
            .next
              { s with
                hpi := okay
                slots := slots
                windows := s.windows.set w.val
                  (.capturing d e (held + 1)
                    { g with lines := g.lines + 1, bytes := g.bytes + (List.range 4).countP be.getLsbD }) w.isLt })

/-- R33, R39, R106, R107, R109, R116: a write beat of a CAPTURING window for which no slot is available follows the window's full policy:
held with reason STALL; taken to the line interlock, where it waits for its line or is issued at once; or lost with ERROR and
WRITE_LOST. -/
def Obligations.FullPolicyDecidesWithoutASlot : Prop :=
  ∀ (wd : Word) (be : BitVec 4) (t : HostTransaction) (w : WindowNo) (s : State), s.resetn = true → s.PortSettled →
    s.hpi.txn = some t → t.beat = .waiting → t.req.wr = true →
    let a := 4 * (t.req.adr.toNat + t.index)
    a ≤ 0xFFFFFC → s.windowAt a = some w → be ≠ 0#4 →
    ∀ d e held g, s.win w = .capturing d e held g →
      (∀ x ∈ s.slots, x.hasKey w e (a / 32 * 32) = false) → 512 ≤ s.slots.length ∨ d.quota ≤ held →
      (d.policy = .stall → exec (.hostWriteBeat wd be) s =
        .next { s with
                hpi := s.hpi.withBeat t
                  (.held { window := w, addr := a, be := be, wd := wd, reason := .stall, elapsed := 0 }) }) ∧
      (d.policy = .pass →
        let waits : State :=
          { s with hpi := s.hpi.withBeat t (.atInterlock { window := w, addr := a, be := be, wd := wd }) }
        (s.mpa.interlock = some (a / 32 * 32) → exec (.hostWriteBeat wd be) s = .next waits) ∧
        (s.mpa.interlock ≠ some (a / 32 * 32) →
          ∃ u, exec .passWriteIssue waits = .next u ∧ exec (.hostWriteBeat wd be) s = .next u)) ∧
      (d.policy = .drop → exec (.hostWriteBeat wd be) s =
        .next
          { s with
            hpi := s.hpi.afterBeat t { err := true, data := none }
            events := s.events ||| 0x008#11
            windows := s.windows.set w.val
              (.capturing d e held { g with flags := { g.flags with writeLost := true } }) w.isLt })

/-- R104, R109: a write beat of a RETIRING window is held with reason RETIRE; a beat beyond FFFFFCH is answered ERROR, a read with a word
that is the model's free value (log entry 1), whatever it is. Nothing else changes. -/
def Obligations.RetiringAndBeyondTheEnd : Prop :=
  ∀ (wd : Word) (be : BitVec 4) (t : HostTransaction) (s : State), s.resetn = true → s.PortSettled →
    s.hpi.txn = some t → t.beat = .waiting →
    let a := 4 * (t.req.adr.toNat + t.index)
    (∀ w d e held q, s.windowAt a = some w → s.win w = .retiring d e held q → t.req.wr = true → a ≤ 0xFFFFFC →
      exec (.hostWriteBeat wd be) s =
        .next { s with
                hpi := s.hpi.withBeat t
                  (.held { window := w, addr := a, be := be, wd := wd, reason := .retire, elapsed := 0 }) }) ∧
    (0xFFFFFC < a → t.req.wr = true →
      exec (.hostWriteBeat wd be) s = .next { s with hpi := s.hpi.afterBeat t { err := true, data := none } }) ∧
    (0xFFFFFC < a → t.req.wr = false → ∃ v : Word,
      exec .hostReadBeat s =
        .next { s with hpi := s.hpi.afterBeat t { err := true, data := some v }, freeIndex := s.freeIndex + 1 })

/-- R113: a read beat of a CAPTURING or RETIRING window is answered OKAY at once with the newest staged bytes when all four are staged, and
else goes to memory with the staged bytes the store gave it. Nothing else changes. -/
def Obligations.ReadsTakeStagedBytes : Prop :=
  ∀ (t : HostTransaction) (w : WindowNo) (s : State), s.resetn = true → s.PortSettled →
    s.hpi.txn = some t → t.beat = .waiting → t.req.wr = false →
    let a := 4 * (t.req.adr.toNat + t.index)
    a ≤ 0xFFFFFC → s.windowAt a = some w → (s.win w).isIdle = false → (s.win w).isFree = false →
    (∀ v : Word, (∀ k : Fin 4, s.newestByte w (a + k.val) = some (v.extractLsb' (8 * k.val) 8)) →
      exec .hostReadBeat s = .next { s with hpi := s.hpi.afterBeat t { err := false, data := some v } }) ∧
    ((∃ k : Fin 4, s.newestByte w (a + k.val) = none) →
      exec .hostReadBeat s =
        .next
          { s with
            hpi := s.hpi.withBeat t (.reading (Vector.ofFn fun k => s.newestByte w (a + k.val)))
            mpa := s.mpa.withHostRequest (.hostRead a) })

/-- R37, R107, R116: the issue of a PASS write: not while the interlock names its line; else every staged copy of its line in its window
takes its strobed bytes where it holds them valid, WRITE_BYPASSED is set on the open group and as an event, and the write joins the
arbiter. With no beat at the interlock nothing changes. -/
def Obligations.PassWriteIssueUpdatesTheCopies : Prop :=
  ∀ (s : State), s.resetn = true → s.PortSettled →
    (∀ t p, s.hpi.txn = some t → t.beat = .atInterlock p →
      let line := p.addr / 32 * 32
      let off := p.addr % 32
      (s.mpa.interlock = some line → exec .passWriteIssue s = .next s) ∧
      (s.mpa.interlock ≠ some line →
        exec .passWriteIssue s =
          .next
            { s with
              slots := s.slots.map fun x =>
                if x.window = p.window ∧ x.line = line then
                  { x with
                    cells := Vector.ofFn fun i =>
                      if (off ≤ i.val ∧ p.be.getLsbD (i.val - off) = true) ∧ x.cells[i].isSome = true then
                        some (p.wd.extractLsb' (8 * (i.val - off)) 8)
                      else x.cells[i] }
                else x
              windows :=
                match s.win p.window with
                | .capturing d e held g =>
                  s.windows.set p.window.val
                    (.capturing d e held { g with flags := { g.flags with writeBypassed := true } }) p.window.isLt
                | _ => s.windows
              events := s.events ||| 0x010#11
              hpi := { s.hpi with txn := some { t with beat := .writing } }
              mpa := s.mpa.withHostRequest (.hostWrite p.addr p.be p.wd) })) ∧
    ((∀ t p, s.hpi.txn = some t → t.beat ≠ .atInterlock p) → exec .passWriteIssue s = .next s)

/-- R46, R110, R111: the ends of a held beat. Re-offered, a STALL beat is staged where the store has room and answered OKAY, takes reason
RETIRE in a RETIRING window, passes to memory from an IDLE one, and stays held otherwise; released, a beat whose window is IDLE
passes to memory; at the stall limit it is answered ERROR with STALL_TIMEOUT, and with WRITE_LOST on the open group and as an event
when its window is CAPTURING. With no beat held nothing changes. That HELD_BEAT_RETRY and HELD_BEAT_RELEASE stand as commands of their
own, that the retry needs no freeing just before it, and that STALL_LIMIT_EXPIRY is the expiry at whatever elapsed time it comes,
are the model's choices (log entries 5, 17 and 4). -/
def Obligations.HeldBeatsEnd : Prop :=
  ∀ s : State, s.resetn = true → s.PortSettled →
    (∀ t h, s.hpi.txn = some t → t.beat = .held h →
      let passed : State :=
        { s with
          hpi := { s.hpi with txn := some { t with beat := .writing } }
          mpa := s.mpa.withHostRequest (.hostWrite h.addr h.be h.wd) }
      (h.reason = .retire ∨ s.win h.window = .free → exec .heldBeatRetry s = .next s) ∧
      (h.reason = .stall → (s.win h.window).isIdle = true → exec .heldBeatRetry s = .next passed) ∧
      (∀ d e n q, s.win h.window = .retiring d e n q → h.reason = .stall →
        exec .heldBeatRetry s =
          .next { s with hpi := { s.hpi with txn := some { t with beat := .held { h with reason := .retire } } } }) ∧
      (∀ d e n g, s.win h.window = .capturing d e n g → h.reason = .stall →
        (∀ u, s.stage h.window h.addr h.wd h.be = some u →
          exec .heldBeatRetry s = .next { u with hpi := s.hpi.afterBeat t { err := false, data := none } }) ∧
        (s.stage h.window h.addr h.wd h.be = none → exec .heldBeatRetry s = .next s)) ∧
      ((s.win h.window).isIdle = true → exec .heldBeatRelease s = .next passed) ∧
      ((s.win h.window).isIdle = false → exec .heldBeatRelease s = .next s) ∧
      (∀ d e n g, s.win h.window = .capturing d e n g →
        exec .stallLimitExpiry s =
          .next
            { s with
              hpi := s.hpi.afterBeat t { err := true, data := none }
              events := s.events ||| 0x028#11
              windows := s.windows.set h.window.val
                (.capturing d e n { g with flags := { g.flags with writeLost := true } }) h.window.isLt }) ∧
      ((s.win h.window).isCapturing = false →
        exec .stallLimitExpiry s =
          .next { s with hpi := s.hpi.afterBeat t { err := true, data := none }, events := s.events ||| 0x020#11 })) ∧
    (s.hpi.held = none →
      exec .heldBeatRetry s = .next s ∧ exec .heldBeatRelease s = .next s ∧ exec .stallLimitExpiry s = .next s)

/-- R105, R107, R113 to R115: memory's answer to the host path's beat is the answer of the host beat, a read's word taken lane by lane from
the staged bytes and from memory's data, whatever the answer; the port goes to the requester next in turn; and with the port NONE an
answer changes nothing. -/
def Obligations.MemoryAnswersTheHostBeat : Prop :=
  ∀ (err : Bool) (rd : Word) (t : HostTransaction) (s : State), s.resetn = true →
    (s.mpa.port = none → exec (.memoryBeatAnswer err rd) s = .next s) ∧
    (∀ a be wd, s.mpa.port = some (.hostWrite a be wd) → s.hpi.txn = some t → t.beat = .writing →
      exec (.memoryBeatAnswer err rd) s =
        .next { s with hpi := s.hpi.afterBeat t { err := err, data := none }, mpa := s.mpa.nextGrant }) ∧
    (∀ a staged, s.mpa.port = some (.hostRead a) → s.hpi.txn = some t → t.beat = .reading staged →
      ∃ v : Word, (∀ k : Fin 4, v.extractLsb' (8 * k.val) 8 = (staged[k]).getD (rd.extractLsb' (8 * k.val) 8)) ∧
        exec (.memoryBeatAnswer err rd) s =
          .next { s with hpi := s.hpi.afterBeat t { err := err, data := some v }, mpa := s.mpa.nextGrant })

/-- R3, R4, R6, R15, R40: the lookups of the host path. An address finds the window it is a member of, if any, and each byte its newest
staged copy: that of the open group of a CAPTURING window before every other, and of two closed groups that of the later batch. -/
def Obligations.LookupsFindTheWindowAndTheNewestByte : Prop :=
  ∀ (w : WindowNo) (a : Nat) (b : Byte) (s : State),
    (s.SpansDisjoint →
      (s.windowAt a = some w ↔ ∃ d ∈ (s.win w).definition,
        match d.geometry with
        | .linear base length => base ≤ a ∧ a ≤ base + length - 1
        | .rect base pitch width height => base ≤ a ∧ (a - base) / pitch < height ∧ (a - base) % pitch < width)) ∧
    (let copy (e : Epoch) : Option Byte :=
        (s.slots.find? fun x => x.window = w && x.epoch = e && x.line = a / 32 * 32).bind fun x =>
          x.cells[a % 32]'(Nat.mod_lt a (by decide))
      let epochs : List Epoch :=
        (match s.win w with
          | .capturing _ e _ _ => [e]
          | _ => []) ++ s.queue.reverse.filterMap fun r => (r.members.find? fun m => m.window = w).map Member.epoch
      s.newestByte w a = some b ↔
        ∃ newer e older, epochs = newer ++ e :: older ∧ copy e = some b ∧ ∀ x ∈ newer, copy x = none)

/-! ## The drain engine -/

/-- R24, R28, R32, R48: every step keeps every slot in its place: the counts of the windows, of the open groups and of the batches are those
of the slots they hold, and every slot belongs to exactly the group or batch that its status says. (R49's premise: the counter has
not come round to a number still in the queue.) -/
def Obligations.StepKeepsEverySlotInItsPlace : Prop :=
  ∀ s t : State, s.StoreWf → s.DrainLaw → s.LinkLaw → s.FreshSequences → s.SlotLaw → step s = .next t → t.SlotLaw

/-- R76, R77, R82, R84, R90, R91, R96: the edges of QUIET. A quiet start renews the remainder, counts a frame, clears the mark and the
timer, and tests the start conditions of an engine that drains nothing; a quiet end closes phase QUIET, leaves WAIT_LOG, and marks
a batch cut between lines with SPANNED. In another phase a quiet end changes only the level. -/
def Obligations.QuietEdgesOpenAndClose : Prop :=
  ∀ s : State, s.resetn = true →
    (s.quiet = false →
      let t : State :=
        { s with
          quiet := true
          drain :=
            { s.drain with
              phase := .quiet, remainder := s.config.budget.toNat * 64, frameCount := s.drain.frameCount + 1, begun := false
              timer := { expired := false, elapsed := 0, micros := 0 } } }
      (s.lineInProgress.isSome = true → s.PortSettled → exec .quietStart s = .next t) ∧
      (s.drain.activity = .idle ∨ s.drain.activity = .waitLog → s.PortSettled →
        (t.startable = false → exec .quietStart s = .next { t with drain := { t.drain with activity := .idle } }) ∧
        (t.startable = true → ∃ u, exec .drainStart t = .next u ∧ exec .quietStart s = .next u))) ∧
    (s.quiet = true → exec .quietStart s = .next s) ∧
    (s.quiet = false → exec .quietEnd s = .next s) ∧
    (s.quiet = true → s.drain.phase ≠ .quiet → exec .quietEnd s = .next { s with quiet := false }) ∧
    (s.quiet = true → s.drain.phase = .quiet →
      exec .quietEnd s =
        .next
          { s with
            quiet := false
            drain :=
              { s.drain with
                phase := .closed
                activity := if s.drain.activity = .waitLog then .idle else s.drain.activity }
            queue :=
              if s.lineInProgress.any s.linesLeft = true then
                s.queue.modifyHead fun r => { r with flags := { r.flags with spanned := true } }
              else s.queue })

/-- R91, R96 to R98: a new opportunity. A HELD batch begins the line at its resume point at a quiet start, charged, and at a forced start,
uncharged with FORCED; the starvation timer expires only while it is RUNNING, sets STARVED and becomes EXPIRED, and begins a forced
stretch only with force enabled. An elapsed time at or above the limit is kept (R99); that the row expires the timer at a lower one
too, which then stands at the limit, is the model's choice (log entry 4). -/
def Obligations.OpportunitiesBegin : Prop :=
  ∀ s : State, s.resetn = true → s.PortSettled →
    (s.timerRuns = true ↔
      s.config.starvationLimit ≠ 0#16 ∧ s.queue ≠ [] ∧ s.quiet = false ∧ s.drain.phase ≠ .forced ∧
        s.drain.timer.expired = false) ∧
    (s.timerRuns = false → exec .starvationTimerExpiry s = .next s) ∧
    (let starved : State :=
        { s with
          events := s.events ||| 0x040#11
          drain :=
            { s.drain with
              timer :=
                if s.config.starvationLimit.toNat ≤ s.drain.timer.elapsed then { s.drain.timer with expired := true }
                else { expired := true, elapsed := s.config.starvationLimit.toNat, micros := 0 } } }
      let forced : State := { starved with drain := { starved.drain with phase := .forced, begun := false } }
      s.timerRuns = true →
        (s.config.forceEnable = false → exec .starvationTimerExpiry s = .next starved) ∧
        (s.config.forceEnable = true →
          (s.lineInProgress.isSome = true → exec .starvationTimerExpiry s = .next forced) ∧
          (s.drain.activity = .idle ∨ s.drain.activity = .waitLog →
            (forced.startable = false →
              exec .starvationTimerExpiry s = .next { forced with drain := { forced.drain with activity := .idle } }) ∧
            (forced.startable = true →
              ∃ u, exec .drainStart forced = .next u ∧ exec .starvationTimerExpiry s = .next u)) ∧
          (∀ r f p x, s.drain.activity = .held → s.drainingHead = some (r, f) → f.resume = some p → s.slotAt p = some x →
            exec .starvationTimerExpiry s = .next (forced.lineBegun p.1 x)))) ∧
    (∀ r f p x, s.quiet = false → s.drain.activity = .held → s.drainingHead = some (r, f) → f.resume = some p →
      s.slotAt p = some x →
        exec .quietStart s =
          .next
            (State.lineBegun
              { s with
                quiet := true
                drain :=
                  { s.drain with
                    phase := .quiet, remainder := s.config.budget.toNat * 64, frameCount := s.drain.frameCount + 1
                    begun := false, timer := { expired := false, elapsed := 0, micros := 0 } } } p.1 x))

/-- R58, R83 to R85, R94: the drain start. The conditions; nothing when they fail or a batch is DRAINING; WAIT_LOG with LOG_FULL when the
log has no free entry; else the reservation, the head and its slots DRAINING, and its first line begun; and a batch with no lines
completes at once, after which a beat whose window became IDLE is released and the next head is tested, and a free port takes one of
their requests by turn (R115). -/
def Obligations.DrainStartsTheHead : Prop :=
  ∀ s : State, s.resetn = true → s.PortSettled →
    (s.startable = true ↔ ∃ r rest, s.queue = r :: rest ∧ r.isQueued = true ∧
      (s.drain.phase = .forced ∨ s.drain.phase = .quiet ∧
        ∀ p ∈ (drainOrder s.slots r.members).head?,
          if r.strict = true then r.bytes ≤ s.drain.remainder
          else ∀ x ∈ s.slotAt p, validCount x.cells ≤ s.drain.remainder)) ∧
    (s.startable = false ∨ s.drain.activity.drains = true → exec .drainStart s = .next s) ∧
    (∀ r rest, s.queue = r :: rest → s.startable = true → s.drain.activity = .idle ∨ s.drain.activity = .waitLog →
      (32 ≤ s.log.records.length + s.log.reserved.toNat →
        exec .drainStart s =
          .next
            { s with
              drain := { s.drain with activity := .waitLog }
              events := if s.drain.activity = .waitLog then s.events else s.events ||| 0x080#11 }) ∧
      (s.log.records.length + s.log.reserved.toNat < 32 → ∀ p x, (drainOrder s.slots r.members).head? = some p →
        s.slotAt p = some x →
        exec .drainStart s =
          .next
            (State.lineBegun
              { s with
                log := { s.log with reserved := true }
                queue :=
                  { r with state := .draining { resume := some p, lines := 0, bytes := 0, crc := 0xFFFFFFFF#32 } } :: rest
                slots := s.slots.map fun y =>
                  if r.members.any fun m => y.window = m.window && y.epoch = m.epoch then { y with status := .draining } else y
                drain := { s.drain with begun := false } } p.1 { x with status := .draining })) ∧
      (s.log.records.length + s.log.reserved.toNat < 32 → drainOrder s.slots r.members = [] →
        let completed : CompletionRecord :=
          { seq := r.seq, mask := memberMask r.members, outcome := .drained, flags := r.flags, intervals := r.intervals
            lines := 0, frameCount := s.drain.frameCount, bytes := 0, signature := 0x00000000#32 }
        let torn : Bool := r.flags.spanned || r.flags.forced
        let t : State :=
          { s with
            log := { records := s.log.records ++ [completed], reserved := false }
            chain := crc32c (bytesOf s.chain ++ bytesOf 0x00000000#32)
            queue := rest
            windows := Vector.ofFn fun w =>
              match s.win w with
              | .retiring d e n q =>
                if (r.members.any fun m => m.window = w) && q = r.seq then .idle d e else .retiring d e n q
              | y => y
            events := if torn then s.events ||| 0x006#11 else s.events ||| 0x002#11
            drain :=
              { s.drain with
                phase := if rest = [] ∧ s.drain.phase = .forced then .closed else s.drain.phase
                activity := .idle
                begun := false } }
        ∃ u, execAll [.heldBeatRelease, .drainStart] t.portTaken = .next u ∧
          exec .drainStart s = .next (u.thenGranted s.mpa.port)))

/-- R87, R89, R114, R115: an answer to a drain beat: ERROR sets MEM_ERROR on the batch and as an event; a run goes on to its next beat; after
its last the port goes to the requester next in turn, the line's next run among them. -/
def Obligations.DrainRunsGoOn : Prop :=
  ∀ (err : Bool) (rd : Word) (run : DrainRun) (n : Nat) (s : State), s.resetn = true → s.mpa.port = some (.drainRun run n) →
    let noted : State :=
      if err then
        { s with
          events := s.events ||| 0x100#11
          queue := s.queue.modifyHead fun r => { r with flags := { r.flags with memError := true } } }
      else s
    (n + 1 < run.beats.length →
      exec (.memoryBeatAnswer err rd) s = .next { noted with mpa := { s.mpa with port := some (.drainRun run (n + 1)) } }) ∧
    (∀ l next rest, run.beats.length ≤ n + 1 → s.drain.activity = .writing l → l.runs = next :: rest →
      exec (.memoryBeatAnswer err rd) s =
        .next
          { noted with
            drain := { s.drain with activity := .writing { l with runs := rest } }
            mpa := Mpa.nextGrant { s.mpa with drainReq := some next } })

/-- R71, R73, R86 to R88, R90, R116, R165: the end of a line: the slot written, the counts, the signature and the resume point advanced, a
beat at the interlock issued; and then the effect of a WIPE that waited, which stops the batch even where the line was its last;
with no WIPE waiting and a line left, a pause in phase CLOSED, a pause with SPANNED when the next line does not fit the remainder, or
the next line. -/
def Obligations.LineEndGoesOnOrPauses : Prop :=
  ∀ (err : Bool) (rd : Word) (run : DrainRun) (n : Nat) (l : LineInProgress) (r : BatchRecord) (f : DrainFields)
    (rest : List BatchRecord) (next : Option (Member × Nat)) (s : State), s.resetn = true →
    s.mpa.port = some (.drainRun run n) → s.mpa.drainReq = none → s.mpa.lastGrant = .drain → run.beats.length ≤ n + 1 →
    s.drain.activity = .writing l → l.runs = [] → s.queue = r :: rest → r.state = .draining f →
    lineAfter (l.member, l.line) (drainOrder s.slots r.members) = next →
    let t : State :=
      { s with
        events := if err then s.events ||| 0x100#11 else s.events
        queue :=
          { r with
            flags := { r.flags with memError := r.flags.memError || err }
            state := .draining
              { resume := next, lines := f.lines + 1, bytes := f.bytes + validCount l.cells
                crc := crc32cFold f.crc (lineStream l.line l.cells) } } :: rest
        slots := s.slots.map fun x =>
          if x.hasKey l.member.window l.member.epoch l.line then { x with written := true } else x
        mpa := { s.mpa with port := none, interlock := none } }
    ∃ u, exec .passWriteIssue t = .next u ∧
      (s.slc.wipeTaken = true →
        ∃ v, exec .wipeEffect { u with drain := { u.drain with activity := .idle } } = .next v ∧
          exec (.memoryBeatAnswer err rd) s = .next v) ∧
      (∀ p, s.slc.wipeTaken = false → next = some p →
        (s.drain.phase = .closed →
          exec (.memoryBeatAnswer err rd) s = .next { u with drain := { u.drain with activity := .held } }) ∧
        (∀ x, u.slotAt p = some x → s.drain.phase = .forced ∨ s.drain.phase = .quiet ∧ validCount x.cells ≤ s.drain.remainder →
          exec (.memoryBeatAnswer err rd) s = .next (u.lineBegun p.1 x)) ∧
        (∀ x, u.slotAt p = some x → s.drain.phase = .quiet → s.drain.remainder < validCount x.cells →
          exec (.memoryBeatAnswer err rd) s =
            .next
              { u with
                drain := { u.drain with activity := .held }
                queue := u.queue.modifyHead fun y => { y with flags := { y.flags with spanned := true } } }))

/-- R17, R42, R60, R73, R93, R94, R98, R122, R130, R131: the end of a batch's last line, with no WIPE waiting: its slots freed, its DRAINED
record posted into the reservation, its signature folded into the chain, its place at the head left, its retire notices sent,
BATCH_DONE and, for a torn batch, BATCH_TORN set; then the retry and the release of a held beat and the start of the next batch; but
a WIPE taken together with the completion, the next command of the queue or the byte that completes its frame (log entry 20), finds
the next batch QUEUED. The requests of these join the port together, and it takes one of them by turn (R115). -/
def Obligations.LastLineCompletesTheBatch : Prop :=
  ∀ (err : Bool) (rd : Word) (run : DrainRun) (n : Nat) (l : LineInProgress) (r : BatchRecord) (f : DrainFields)
    (rest : List BatchRecord) (s : State), s.resetn = true →
    s.mpa.port = some (.drainRun run n) → s.mpa.drainReq = none → run.beats.length ≤ n + 1 →
    s.drain.activity = .writing l → l.runs = [] → s.queue = r :: rest → r.state = .draining f →
    lineAfter (l.member, l.line) (drainOrder s.slots r.members) = none → s.slc.wipeTaken = false →
    (s.wipeNext = true ↔ s.slc.responses.length < 8 ∧
      ((∃ ch tag a later, s.pending = .wipe ch tag (.short a) :: later) ∨
        ∃ b1 b2 later, s.slc.assembler = .header [0x05#8, b1, b2] ∧ b1.getLsbD 5 = false ∧ b1.getLsbD 4 = false ∧
          s.pending = .byteReceived (crc8 [0x05#8, b1, b2]) :: later)) ∧
    let inBatch (x : Slot) : Bool := r.members.any fun m => x.window = m.window && x.epoch = m.epoch
    let flags : BatchFlags := { r.flags with memError := r.flags.memError || err }
    let signature : BitVec 32 := crc32cFold f.crc (lineStream l.line l.cells) ^^^ 0xFFFFFFFF#32
    let completed : CompletionRecord :=
      { seq := r.seq, mask := memberMask r.members, outcome := .drained, flags := flags, intervals := r.intervals
        lines := f.lines + 1, frameCount := s.drain.frameCount, bytes := f.bytes + validCount l.cells, signature := signature }
    let noted : EventSet := if err then s.events ||| 0x100#11 else s.events
    let t : State :=
      { s with
        events := noted
        queue :=
          { r with
            flags := flags
            state := .draining
              { resume := none, lines := f.lines + 1, bytes := f.bytes + validCount l.cells
                crc := crc32cFold f.crc (lineStream l.line l.cells) } } :: rest
        slots := s.slots.map fun x =>
          if x.hasKey l.member.window l.member.epoch l.line then { x with written := true } else x
        mpa := { s.mpa with interlock := none } }
    ∃ u, exec .passWriteIssue t = .next u ∧
      let held (w : WindowNo) (k : Nat) : Nat := k - u.slots.countP fun x => inBatch x && x.window = w
      let v : State :=
        { u with
          slots := u.slots.filter fun x => !inBatch x
          log := { records := s.log.records ++ [completed], reserved := false }
          chain := crc32c (bytesOf s.chain ++ bytesOf signature)
          queue := rest
          windows := Vector.ofFn fun w =>
            match u.win w with
            | .capturing d e k g => .capturing d e (held w k) g
            | .retiring d e k q =>
              if (r.members.any fun m => m.window = w) && q = r.seq then .idle d e else .retiring d e (held w k) q
            | y => y
          events := if flags.spanned || flags.forced then u.events ||| 0x006#11 else u.events ||| 0x002#11
          drain :=
            { s.drain with
              phase := if rest = [] ∧ s.drain.phase = .forced then .closed else s.drain.phase
              activity := .idle } }
      ∃ z,
        execAll ((if u.slots.any inBatch then [.heldBeatRetry] else []) ++ [.heldBeatRelease] ++
          (if s.wipeNext then [] else [.drainStart])) v = .next z ∧
        exec (.memoryBeatAnswer err rd) s = .next { z with mpa := z.mpa.nextGrant }

/-- R87, part 2: the runs of a line: in ascending address order they cover exactly the words that hold a valid byte, each beat with the
valid bytes of its word; none is empty, and a word with no valid byte lies between any two. R86: the drain order of a batch: its
members in ascending window number and each member's lines in ascending line address, each slot of the batch once and no other; and
the line after a line is the next in that order. -/
def Obligations.RunsCoverTheValidWords : Prop :=
  (∀ (cells : Cells) (line : Nat),
    let lanes (j : Nat) : Lanes := Vector.ofFn fun k => if h : 4 * j + k.val < 32 then cells[4 * j + k.val] else none
    let valid (j : Nat) : Bool := (List.finRange 4).any fun k => (lanes j)[k].isSome
    ((runsOf cells line).flatMap fun r => r.beats.mapIdx fun i b => (r.addr + 4 * i, b)) =
      ((List.range 8).filter valid).map (fun j => (line + 4 * j, lanes j)) ∧
    (∀ r ∈ runsOf cells line, r.beats ≠ []) ∧
    (runsOf cells line).Pairwise fun r q => r.addr + 4 * r.beats.length < q.addr) ∧
  (∀ (slots : List Slot) (ms : List Member),
    slots.Pairwise (fun x y => x.before y = true) → ms.Pairwise (fun m n => m.window < n.window) →
      (drainOrder slots ms).Pairwise (fun p q => p.1.window < q.1.window ∨ p.1 = q.1 ∧ p.2 < q.2) ∧
      (∀ (m : Member) (line : Nat), (m, line) ∈ drainOrder slots ms ↔
        m ∈ ms ∧ ∃ x ∈ slots, x.window = m.window ∧ x.epoch = m.epoch ∧ x.line = line) ∧
      ∀ p before after, drainOrder slots ms = before ++ p :: after → lineAfter p (drainOrder slots ms) = after.head?)
end

