-- ==== Sys2Proof/Laws/State.lean ====
section
/-! SUPPORT. One lemma for each field after each named update of the state, all true by unfolding: no later proof unfolds a record
update. -/

namespace Sys2Proof.Machine

variable (s : State)

/-! ### `State.setResetn` -/

@[simp] theorem State.setResetn_resetn (x : Bool) : (s.setResetn x).resetn = x := rfl
@[simp] theorem State.setResetn_quiet (x : Bool) : (s.setResetn x).quiet = s.quiet := rfl
@[simp] theorem State.setResetn_lsel (x : Bool) : (s.setResetn x).lsel = s.lsel := rfl
@[simp] theorem State.setResetn_windows (x : Bool) : (s.setResetn x).windows = s.windows := rfl
@[simp] theorem State.setResetn_slots (x : Bool) : (s.setResetn x).slots = s.slots := rfl
@[simp] theorem State.setResetn_queue (x : Bool) : (s.setResetn x).queue = s.queue := rfl
@[simp] theorem State.setResetn_nextSeq (x : Bool) : (s.setResetn x).nextSeq = s.nextSeq := rfl
@[simp] theorem State.setResetn_drain (x : Bool) : (s.setResetn x).drain = s.drain := rfl
@[simp] theorem State.setResetn_hpi (x : Bool) : (s.setResetn x).hpi = s.hpi := rfl
@[simp] theorem State.setResetn_mpa (x : Bool) : (s.setResetn x).mpa = s.mpa := rfl
@[simp] theorem State.setResetn_chain (x : Bool) : (s.setResetn x).chain = s.chain := rfl
@[simp] theorem State.setResetn_log (x : Bool) : (s.setResetn x).log = s.log := rfl
@[simp] theorem State.setResetn_slc (x : Bool) : (s.setResetn x).slc = s.slc := rfl
@[simp] theorem State.setResetn_config (x : Bool) : (s.setResetn x).config = s.config := rfl
@[simp] theorem State.setResetn_events (x : Bool) : (s.setResetn x).events = s.events := rfl
@[simp] theorem State.setResetn_freeIndex (x : Bool) : (s.setResetn x).freeIndex = s.freeIndex := rfl
@[simp] theorem State.setResetn_pending (x : Bool) : (s.setResetn x).pending = s.pending := rfl
@[simp] theorem State.setResetn_win (x : Bool) (w : WindowNo) : (s.setResetn x).win w = s.win w := rfl
@[simp] theorem State.setResetn_setResetn (x y : Bool) : (s.setResetn x).setResetn y = s.setResetn y := rfl
@[simp] theorem State.setResetn_self : s.setResetn s.resetn = s := rfl

/-! ### `State.setQuiet` -/

@[simp] theorem State.setQuiet_resetn (x : Bool) : (s.setQuiet x).resetn = s.resetn := rfl
@[simp] theorem State.setQuiet_quiet (x : Bool) : (s.setQuiet x).quiet = x := rfl
@[simp] theorem State.setQuiet_lsel (x : Bool) : (s.setQuiet x).lsel = s.lsel := rfl
@[simp] theorem State.setQuiet_windows (x : Bool) : (s.setQuiet x).windows = s.windows := rfl
@[simp] theorem State.setQuiet_slots (x : Bool) : (s.setQuiet x).slots = s.slots := rfl
@[simp] theorem State.setQuiet_queue (x : Bool) : (s.setQuiet x).queue = s.queue := rfl
@[simp] theorem State.setQuiet_nextSeq (x : Bool) : (s.setQuiet x).nextSeq = s.nextSeq := rfl
@[simp] theorem State.setQuiet_drain (x : Bool) : (s.setQuiet x).drain = s.drain := rfl
@[simp] theorem State.setQuiet_hpi (x : Bool) : (s.setQuiet x).hpi = s.hpi := rfl
@[simp] theorem State.setQuiet_mpa (x : Bool) : (s.setQuiet x).mpa = s.mpa := rfl
@[simp] theorem State.setQuiet_chain (x : Bool) : (s.setQuiet x).chain = s.chain := rfl
@[simp] theorem State.setQuiet_log (x : Bool) : (s.setQuiet x).log = s.log := rfl
@[simp] theorem State.setQuiet_slc (x : Bool) : (s.setQuiet x).slc = s.slc := rfl
@[simp] theorem State.setQuiet_config (x : Bool) : (s.setQuiet x).config = s.config := rfl
@[simp] theorem State.setQuiet_events (x : Bool) : (s.setQuiet x).events = s.events := rfl
@[simp] theorem State.setQuiet_freeIndex (x : Bool) : (s.setQuiet x).freeIndex = s.freeIndex := rfl
@[simp] theorem State.setQuiet_pending (x : Bool) : (s.setQuiet x).pending = s.pending := rfl
@[simp] theorem State.setQuiet_win (x : Bool) (w : WindowNo) : (s.setQuiet x).win w = s.win w := rfl
@[simp] theorem State.setQuiet_setQuiet (x y : Bool) : (s.setQuiet x).setQuiet y = s.setQuiet y := rfl
@[simp] theorem State.setQuiet_self : s.setQuiet s.quiet = s := rfl

/-! ### `State.setLsel` -/

@[simp] theorem State.setLsel_resetn (x : Bool) : (s.setLsel x).resetn = s.resetn := rfl
@[simp] theorem State.setLsel_quiet (x : Bool) : (s.setLsel x).quiet = s.quiet := rfl
@[simp] theorem State.setLsel_lsel (x : Bool) : (s.setLsel x).lsel = x := rfl
@[simp] theorem State.setLsel_windows (x : Bool) : (s.setLsel x).windows = s.windows := rfl
@[simp] theorem State.setLsel_slots (x : Bool) : (s.setLsel x).slots = s.slots := rfl
@[simp] theorem State.setLsel_queue (x : Bool) : (s.setLsel x).queue = s.queue := rfl
@[simp] theorem State.setLsel_nextSeq (x : Bool) : (s.setLsel x).nextSeq = s.nextSeq := rfl
@[simp] theorem State.setLsel_drain (x : Bool) : (s.setLsel x).drain = s.drain := rfl
@[simp] theorem State.setLsel_hpi (x : Bool) : (s.setLsel x).hpi = s.hpi := rfl
@[simp] theorem State.setLsel_mpa (x : Bool) : (s.setLsel x).mpa = s.mpa := rfl
@[simp] theorem State.setLsel_chain (x : Bool) : (s.setLsel x).chain = s.chain := rfl
@[simp] theorem State.setLsel_log (x : Bool) : (s.setLsel x).log = s.log := rfl
@[simp] theorem State.setLsel_slc (x : Bool) : (s.setLsel x).slc = s.slc := rfl
@[simp] theorem State.setLsel_config (x : Bool) : (s.setLsel x).config = s.config := rfl
@[simp] theorem State.setLsel_events (x : Bool) : (s.setLsel x).events = s.events := rfl
@[simp] theorem State.setLsel_freeIndex (x : Bool) : (s.setLsel x).freeIndex = s.freeIndex := rfl
@[simp] theorem State.setLsel_pending (x : Bool) : (s.setLsel x).pending = s.pending := rfl
@[simp] theorem State.setLsel_win (x : Bool) (w : WindowNo) : (s.setLsel x).win w = s.win w := rfl
@[simp] theorem State.setLsel_setLsel (x y : Bool) : (s.setLsel x).setLsel y = s.setLsel y := rfl
@[simp] theorem State.setLsel_self : s.setLsel s.lsel = s := rfl

/-! ### `State.setWindows` -/

@[simp] theorem State.setWindows_resetn (x : Vector WindowEntry 16) : (s.setWindows x).resetn = s.resetn := rfl
@[simp] theorem State.setWindows_quiet (x : Vector WindowEntry 16) : (s.setWindows x).quiet = s.quiet := rfl
@[simp] theorem State.setWindows_lsel (x : Vector WindowEntry 16) : (s.setWindows x).lsel = s.lsel := rfl
@[simp] theorem State.setWindows_windows (x : Vector WindowEntry 16) : (s.setWindows x).windows = x := rfl
@[simp] theorem State.setWindows_slots (x : Vector WindowEntry 16) : (s.setWindows x).slots = s.slots := rfl
@[simp] theorem State.setWindows_queue (x : Vector WindowEntry 16) : (s.setWindows x).queue = s.queue := rfl
@[simp] theorem State.setWindows_nextSeq (x : Vector WindowEntry 16) : (s.setWindows x).nextSeq = s.nextSeq := rfl
@[simp] theorem State.setWindows_drain (x : Vector WindowEntry 16) : (s.setWindows x).drain = s.drain := rfl
@[simp] theorem State.setWindows_hpi (x : Vector WindowEntry 16) : (s.setWindows x).hpi = s.hpi := rfl
@[simp] theorem State.setWindows_mpa (x : Vector WindowEntry 16) : (s.setWindows x).mpa = s.mpa := rfl
@[simp] theorem State.setWindows_chain (x : Vector WindowEntry 16) : (s.setWindows x).chain = s.chain := rfl
@[simp] theorem State.setWindows_log (x : Vector WindowEntry 16) : (s.setWindows x).log = s.log := rfl
@[simp] theorem State.setWindows_slc (x : Vector WindowEntry 16) : (s.setWindows x).slc = s.slc := rfl
@[simp] theorem State.setWindows_config (x : Vector WindowEntry 16) : (s.setWindows x).config = s.config := rfl
@[simp] theorem State.setWindows_events (x : Vector WindowEntry 16) : (s.setWindows x).events = s.events := rfl
@[simp] theorem State.setWindows_freeIndex (x : Vector WindowEntry 16) : (s.setWindows x).freeIndex = s.freeIndex := rfl
@[simp] theorem State.setWindows_pending (x : Vector WindowEntry 16) : (s.setWindows x).pending = s.pending := rfl
@[simp] theorem State.setWindows_setWindows (x y : Vector WindowEntry 16) : (s.setWindows x).setWindows y = s.setWindows y := rfl
@[simp] theorem State.setWindows_self : s.setWindows s.windows = s := rfl

/-! ### `State.setSlots` -/

@[simp] theorem State.setSlots_resetn (x : List Slot) : (s.setSlots x).resetn = s.resetn := rfl
@[simp] theorem State.setSlots_quiet (x : List Slot) : (s.setSlots x).quiet = s.quiet := rfl
@[simp] theorem State.setSlots_lsel (x : List Slot) : (s.setSlots x).lsel = s.lsel := rfl
@[simp] theorem State.setSlots_windows (x : List Slot) : (s.setSlots x).windows = s.windows := rfl
@[simp] theorem State.setSlots_slots (x : List Slot) : (s.setSlots x).slots = x := rfl
@[simp] theorem State.setSlots_queue (x : List Slot) : (s.setSlots x).queue = s.queue := rfl
@[simp] theorem State.setSlots_nextSeq (x : List Slot) : (s.setSlots x).nextSeq = s.nextSeq := rfl
@[simp] theorem State.setSlots_drain (x : List Slot) : (s.setSlots x).drain = s.drain := rfl
@[simp] theorem State.setSlots_hpi (x : List Slot) : (s.setSlots x).hpi = s.hpi := rfl
@[simp] theorem State.setSlots_mpa (x : List Slot) : (s.setSlots x).mpa = s.mpa := rfl
@[simp] theorem State.setSlots_chain (x : List Slot) : (s.setSlots x).chain = s.chain := rfl
@[simp] theorem State.setSlots_log (x : List Slot) : (s.setSlots x).log = s.log := rfl
@[simp] theorem State.setSlots_slc (x : List Slot) : (s.setSlots x).slc = s.slc := rfl
@[simp] theorem State.setSlots_config (x : List Slot) : (s.setSlots x).config = s.config := rfl
@[simp] theorem State.setSlots_events (x : List Slot) : (s.setSlots x).events = s.events := rfl
@[simp] theorem State.setSlots_freeIndex (x : List Slot) : (s.setSlots x).freeIndex = s.freeIndex := rfl
@[simp] theorem State.setSlots_pending (x : List Slot) : (s.setSlots x).pending = s.pending := rfl
@[simp] theorem State.setSlots_win (x : List Slot) (w : WindowNo) : (s.setSlots x).win w = s.win w := rfl
@[simp] theorem State.setSlots_setSlots (x y : List Slot) : (s.setSlots x).setSlots y = s.setSlots y := rfl
@[simp] theorem State.setSlots_self : s.setSlots s.slots = s := rfl

/-! ### `State.setQueue` -/

@[simp] theorem State.setQueue_resetn (x : List BatchRecord) : (s.setQueue x).resetn = s.resetn := rfl
@[simp] theorem State.setQueue_quiet (x : List BatchRecord) : (s.setQueue x).quiet = s.quiet := rfl
@[simp] theorem State.setQueue_lsel (x : List BatchRecord) : (s.setQueue x).lsel = s.lsel := rfl
@[simp] theorem State.setQueue_windows (x : List BatchRecord) : (s.setQueue x).windows = s.windows := rfl
@[simp] theorem State.setQueue_slots (x : List BatchRecord) : (s.setQueue x).slots = s.slots := rfl
@[simp] theorem State.setQueue_queue (x : List BatchRecord) : (s.setQueue x).queue = x := rfl
@[simp] theorem State.setQueue_nextSeq (x : List BatchRecord) : (s.setQueue x).nextSeq = s.nextSeq := rfl
@[simp] theorem State.setQueue_drain (x : List BatchRecord) : (s.setQueue x).drain = s.drain := rfl
@[simp] theorem State.setQueue_hpi (x : List BatchRecord) : (s.setQueue x).hpi = s.hpi := rfl
@[simp] theorem State.setQueue_mpa (x : List BatchRecord) : (s.setQueue x).mpa = s.mpa := rfl
@[simp] theorem State.setQueue_chain (x : List BatchRecord) : (s.setQueue x).chain = s.chain := rfl
@[simp] theorem State.setQueue_log (x : List BatchRecord) : (s.setQueue x).log = s.log := rfl
@[simp] theorem State.setQueue_slc (x : List BatchRecord) : (s.setQueue x).slc = s.slc := rfl
@[simp] theorem State.setQueue_config (x : List BatchRecord) : (s.setQueue x).config = s.config := rfl
@[simp] theorem State.setQueue_events (x : List BatchRecord) : (s.setQueue x).events = s.events := rfl
@[simp] theorem State.setQueue_freeIndex (x : List BatchRecord) : (s.setQueue x).freeIndex = s.freeIndex := rfl
@[simp] theorem State.setQueue_pending (x : List BatchRecord) : (s.setQueue x).pending = s.pending := rfl
@[simp] theorem State.setQueue_win (x : List BatchRecord) (w : WindowNo) : (s.setQueue x).win w = s.win w := rfl
@[simp] theorem State.setQueue_setQueue (x y : List BatchRecord) : (s.setQueue x).setQueue y = s.setQueue y := rfl
@[simp] theorem State.setQueue_self : s.setQueue s.queue = s := rfl

/-! ### `State.setNextSeq` -/

@[simp] theorem State.setNextSeq_resetn (x : Sequence) : (s.setNextSeq x).resetn = s.resetn := rfl
@[simp] theorem State.setNextSeq_quiet (x : Sequence) : (s.setNextSeq x).quiet = s.quiet := rfl
@[simp] theorem State.setNextSeq_lsel (x : Sequence) : (s.setNextSeq x).lsel = s.lsel := rfl
@[simp] theorem State.setNextSeq_windows (x : Sequence) : (s.setNextSeq x).windows = s.windows := rfl
@[simp] theorem State.setNextSeq_slots (x : Sequence) : (s.setNextSeq x).slots = s.slots := rfl
@[simp] theorem State.setNextSeq_queue (x : Sequence) : (s.setNextSeq x).queue = s.queue := rfl
@[simp] theorem State.setNextSeq_nextSeq (x : Sequence) : (s.setNextSeq x).nextSeq = x := rfl
@[simp] theorem State.setNextSeq_drain (x : Sequence) : (s.setNextSeq x).drain = s.drain := rfl
@[simp] theorem State.setNextSeq_hpi (x : Sequence) : (s.setNextSeq x).hpi = s.hpi := rfl
@[simp] theorem State.setNextSeq_mpa (x : Sequence) : (s.setNextSeq x).mpa = s.mpa := rfl
@[simp] theorem State.setNextSeq_chain (x : Sequence) : (s.setNextSeq x).chain = s.chain := rfl
@[simp] theorem State.setNextSeq_log (x : Sequence) : (s.setNextSeq x).log = s.log := rfl
@[simp] theorem State.setNextSeq_slc (x : Sequence) : (s.setNextSeq x).slc = s.slc := rfl
@[simp] theorem State.setNextSeq_config (x : Sequence) : (s.setNextSeq x).config = s.config := rfl
@[simp] theorem State.setNextSeq_events (x : Sequence) : (s.setNextSeq x).events = s.events := rfl
@[simp] theorem State.setNextSeq_freeIndex (x : Sequence) : (s.setNextSeq x).freeIndex = s.freeIndex := rfl
@[simp] theorem State.setNextSeq_pending (x : Sequence) : (s.setNextSeq x).pending = s.pending := rfl
@[simp] theorem State.setNextSeq_win (x : Sequence) (w : WindowNo) : (s.setNextSeq x).win w = s.win w := rfl
@[simp] theorem State.setNextSeq_setNextSeq (x y : Sequence) : (s.setNextSeq x).setNextSeq y = s.setNextSeq y := rfl
@[simp] theorem State.setNextSeq_self : s.setNextSeq s.nextSeq = s := rfl

/-! ### `State.setDrain` -/

@[simp] theorem State.setDrain_resetn (x : DrainEngine) : (s.setDrain x).resetn = s.resetn := rfl
@[simp] theorem State.setDrain_quiet (x : DrainEngine) : (s.setDrain x).quiet = s.quiet := rfl
@[simp] theorem State.setDrain_lsel (x : DrainEngine) : (s.setDrain x).lsel = s.lsel := rfl
@[simp] theorem State.setDrain_windows (x : DrainEngine) : (s.setDrain x).windows = s.windows := rfl
@[simp] theorem State.setDrain_slots (x : DrainEngine) : (s.setDrain x).slots = s.slots := rfl
@[simp] theorem State.setDrain_queue (x : DrainEngine) : (s.setDrain x).queue = s.queue := rfl
@[simp] theorem State.setDrain_nextSeq (x : DrainEngine) : (s.setDrain x).nextSeq = s.nextSeq := rfl
@[simp] theorem State.setDrain_drain (x : DrainEngine) : (s.setDrain x).drain = x := rfl
@[simp] theorem State.setDrain_hpi (x : DrainEngine) : (s.setDrain x).hpi = s.hpi := rfl
@[simp] theorem State.setDrain_mpa (x : DrainEngine) : (s.setDrain x).mpa = s.mpa := rfl
@[simp] theorem State.setDrain_chain (x : DrainEngine) : (s.setDrain x).chain = s.chain := rfl
@[simp] theorem State.setDrain_log (x : DrainEngine) : (s.setDrain x).log = s.log := rfl
@[simp] theorem State.setDrain_slc (x : DrainEngine) : (s.setDrain x).slc = s.slc := rfl
@[simp] theorem State.setDrain_config (x : DrainEngine) : (s.setDrain x).config = s.config := rfl
@[simp] theorem State.setDrain_events (x : DrainEngine) : (s.setDrain x).events = s.events := rfl
@[simp] theorem State.setDrain_freeIndex (x : DrainEngine) : (s.setDrain x).freeIndex = s.freeIndex := rfl
@[simp] theorem State.setDrain_pending (x : DrainEngine) : (s.setDrain x).pending = s.pending := rfl
@[simp] theorem State.setDrain_win (x : DrainEngine) (w : WindowNo) : (s.setDrain x).win w = s.win w := rfl
@[simp] theorem State.setDrain_setDrain (x y : DrainEngine) : (s.setDrain x).setDrain y = s.setDrain y := rfl
@[simp] theorem State.setDrain_self : s.setDrain s.drain = s := rfl

/-! ### `State.setHpi` -/

@[simp] theorem State.setHpi_resetn (x : Hpi) : (s.setHpi x).resetn = s.resetn := rfl
@[simp] theorem State.setHpi_quiet (x : Hpi) : (s.setHpi x).quiet = s.quiet := rfl
@[simp] theorem State.setHpi_lsel (x : Hpi) : (s.setHpi x).lsel = s.lsel := rfl
@[simp] theorem State.setHpi_windows (x : Hpi) : (s.setHpi x).windows = s.windows := rfl
@[simp] theorem State.setHpi_slots (x : Hpi) : (s.setHpi x).slots = s.slots := rfl
@[simp] theorem State.setHpi_queue (x : Hpi) : (s.setHpi x).queue = s.queue := rfl
@[simp] theorem State.setHpi_nextSeq (x : Hpi) : (s.setHpi x).nextSeq = s.nextSeq := rfl
@[simp] theorem State.setHpi_drain (x : Hpi) : (s.setHpi x).drain = s.drain := rfl
@[simp] theorem State.setHpi_hpi (x : Hpi) : (s.setHpi x).hpi = x := rfl
@[simp] theorem State.setHpi_mpa (x : Hpi) : (s.setHpi x).mpa = s.mpa := rfl
@[simp] theorem State.setHpi_chain (x : Hpi) : (s.setHpi x).chain = s.chain := rfl
@[simp] theorem State.setHpi_log (x : Hpi) : (s.setHpi x).log = s.log := rfl
@[simp] theorem State.setHpi_slc (x : Hpi) : (s.setHpi x).slc = s.slc := rfl
@[simp] theorem State.setHpi_config (x : Hpi) : (s.setHpi x).config = s.config := rfl
@[simp] theorem State.setHpi_events (x : Hpi) : (s.setHpi x).events = s.events := rfl
@[simp] theorem State.setHpi_freeIndex (x : Hpi) : (s.setHpi x).freeIndex = s.freeIndex := rfl
@[simp] theorem State.setHpi_pending (x : Hpi) : (s.setHpi x).pending = s.pending := rfl
@[simp] theorem State.setHpi_win (x : Hpi) (w : WindowNo) : (s.setHpi x).win w = s.win w := rfl
@[simp] theorem State.setHpi_setHpi (x y : Hpi) : (s.setHpi x).setHpi y = s.setHpi y := rfl
@[simp] theorem State.setHpi_self : s.setHpi s.hpi = s := rfl

/-! ### `State.setMpa` -/

@[simp] theorem State.setMpa_resetn (x : Mpa) : (s.setMpa x).resetn = s.resetn := rfl
@[simp] theorem State.setMpa_quiet (x : Mpa) : (s.setMpa x).quiet = s.quiet := rfl
@[simp] theorem State.setMpa_lsel (x : Mpa) : (s.setMpa x).lsel = s.lsel := rfl
@[simp] theorem State.setMpa_windows (x : Mpa) : (s.setMpa x).windows = s.windows := rfl
@[simp] theorem State.setMpa_slots (x : Mpa) : (s.setMpa x).slots = s.slots := rfl
@[simp] theorem State.setMpa_queue (x : Mpa) : (s.setMpa x).queue = s.queue := rfl
@[simp] theorem State.setMpa_nextSeq (x : Mpa) : (s.setMpa x).nextSeq = s.nextSeq := rfl
@[simp] theorem State.setMpa_drain (x : Mpa) : (s.setMpa x).drain = s.drain := rfl
@[simp] theorem State.setMpa_hpi (x : Mpa) : (s.setMpa x).hpi = s.hpi := rfl
@[simp] theorem State.setMpa_mpa (x : Mpa) : (s.setMpa x).mpa = x := rfl
@[simp] theorem State.setMpa_chain (x : Mpa) : (s.setMpa x).chain = s.chain := rfl
@[simp] theorem State.setMpa_log (x : Mpa) : (s.setMpa x).log = s.log := rfl
@[simp] theorem State.setMpa_slc (x : Mpa) : (s.setMpa x).slc = s.slc := rfl
@[simp] theorem State.setMpa_config (x : Mpa) : (s.setMpa x).config = s.config := rfl
@[simp] theorem State.setMpa_events (x : Mpa) : (s.setMpa x).events = s.events := rfl
@[simp] theorem State.setMpa_freeIndex (x : Mpa) : (s.setMpa x).freeIndex = s.freeIndex := rfl
@[simp] theorem State.setMpa_pending (x : Mpa) : (s.setMpa x).pending = s.pending := rfl
@[simp] theorem State.setMpa_win (x : Mpa) (w : WindowNo) : (s.setMpa x).win w = s.win w := rfl
@[simp] theorem State.setMpa_setMpa (x y : Mpa) : (s.setMpa x).setMpa y = s.setMpa y := rfl
@[simp] theorem State.setMpa_self : s.setMpa s.mpa = s := rfl

/-! ### `State.setChain` -/

@[simp] theorem State.setChain_resetn (x : BitVec 32) : (s.setChain x).resetn = s.resetn := rfl
@[simp] theorem State.setChain_quiet (x : BitVec 32) : (s.setChain x).quiet = s.quiet := rfl
@[simp] theorem State.setChain_lsel (x : BitVec 32) : (s.setChain x).lsel = s.lsel := rfl
@[simp] theorem State.setChain_windows (x : BitVec 32) : (s.setChain x).windows = s.windows := rfl
@[simp] theorem State.setChain_slots (x : BitVec 32) : (s.setChain x).slots = s.slots := rfl
@[simp] theorem State.setChain_queue (x : BitVec 32) : (s.setChain x).queue = s.queue := rfl
@[simp] theorem State.setChain_nextSeq (x : BitVec 32) : (s.setChain x).nextSeq = s.nextSeq := rfl
@[simp] theorem State.setChain_drain (x : BitVec 32) : (s.setChain x).drain = s.drain := rfl
@[simp] theorem State.setChain_hpi (x : BitVec 32) : (s.setChain x).hpi = s.hpi := rfl
@[simp] theorem State.setChain_mpa (x : BitVec 32) : (s.setChain x).mpa = s.mpa := rfl
@[simp] theorem State.setChain_chain (x : BitVec 32) : (s.setChain x).chain = x := rfl
@[simp] theorem State.setChain_log (x : BitVec 32) : (s.setChain x).log = s.log := rfl
@[simp] theorem State.setChain_slc (x : BitVec 32) : (s.setChain x).slc = s.slc := rfl
@[simp] theorem State.setChain_config (x : BitVec 32) : (s.setChain x).config = s.config := rfl
@[simp] theorem State.setChain_events (x : BitVec 32) : (s.setChain x).events = s.events := rfl
@[simp] theorem State.setChain_freeIndex (x : BitVec 32) : (s.setChain x).freeIndex = s.freeIndex := rfl
@[simp] theorem State.setChain_pending (x : BitVec 32) : (s.setChain x).pending = s.pending := rfl
@[simp] theorem State.setChain_win (x : BitVec 32) (w : WindowNo) : (s.setChain x).win w = s.win w := rfl
@[simp] theorem State.setChain_setChain (x y : BitVec 32) : (s.setChain x).setChain y = s.setChain y := rfl
@[simp] theorem State.setChain_self : s.setChain s.chain = s := rfl

/-! ### `State.setLog` -/

@[simp] theorem State.setLog_resetn (x : CompletionLog) : (s.setLog x).resetn = s.resetn := rfl
@[simp] theorem State.setLog_quiet (x : CompletionLog) : (s.setLog x).quiet = s.quiet := rfl
@[simp] theorem State.setLog_lsel (x : CompletionLog) : (s.setLog x).lsel = s.lsel := rfl
@[simp] theorem State.setLog_windows (x : CompletionLog) : (s.setLog x).windows = s.windows := rfl
@[simp] theorem State.setLog_slots (x : CompletionLog) : (s.setLog x).slots = s.slots := rfl
@[simp] theorem State.setLog_queue (x : CompletionLog) : (s.setLog x).queue = s.queue := rfl
@[simp] theorem State.setLog_nextSeq (x : CompletionLog) : (s.setLog x).nextSeq = s.nextSeq := rfl
@[simp] theorem State.setLog_drain (x : CompletionLog) : (s.setLog x).drain = s.drain := rfl
@[simp] theorem State.setLog_hpi (x : CompletionLog) : (s.setLog x).hpi = s.hpi := rfl
@[simp] theorem State.setLog_mpa (x : CompletionLog) : (s.setLog x).mpa = s.mpa := rfl
@[simp] theorem State.setLog_chain (x : CompletionLog) : (s.setLog x).chain = s.chain := rfl
@[simp] theorem State.setLog_log (x : CompletionLog) : (s.setLog x).log = x := rfl
@[simp] theorem State.setLog_slc (x : CompletionLog) : (s.setLog x).slc = s.slc := rfl
@[simp] theorem State.setLog_config (x : CompletionLog) : (s.setLog x).config = s.config := rfl
@[simp] theorem State.setLog_events (x : CompletionLog) : (s.setLog x).events = s.events := rfl
@[simp] theorem State.setLog_freeIndex (x : CompletionLog) : (s.setLog x).freeIndex = s.freeIndex := rfl
@[simp] theorem State.setLog_pending (x : CompletionLog) : (s.setLog x).pending = s.pending := rfl
@[simp] theorem State.setLog_win (x : CompletionLog) (w : WindowNo) : (s.setLog x).win w = s.win w := rfl
@[simp] theorem State.setLog_setLog (x y : CompletionLog) : (s.setLog x).setLog y = s.setLog y := rfl
@[simp] theorem State.setLog_self : s.setLog s.log = s := rfl

/-! ### `State.setSlc` -/

@[simp] theorem State.setSlc_resetn (x : Slc) : (s.setSlc x).resetn = s.resetn := rfl
@[simp] theorem State.setSlc_quiet (x : Slc) : (s.setSlc x).quiet = s.quiet := rfl
@[simp] theorem State.setSlc_lsel (x : Slc) : (s.setSlc x).lsel = s.lsel := rfl
@[simp] theorem State.setSlc_windows (x : Slc) : (s.setSlc x).windows = s.windows := rfl
@[simp] theorem State.setSlc_slots (x : Slc) : (s.setSlc x).slots = s.slots := rfl
@[simp] theorem State.setSlc_queue (x : Slc) : (s.setSlc x).queue = s.queue := rfl
@[simp] theorem State.setSlc_nextSeq (x : Slc) : (s.setSlc x).nextSeq = s.nextSeq := rfl
@[simp] theorem State.setSlc_drain (x : Slc) : (s.setSlc x).drain = s.drain := rfl
@[simp] theorem State.setSlc_hpi (x : Slc) : (s.setSlc x).hpi = s.hpi := rfl
@[simp] theorem State.setSlc_mpa (x : Slc) : (s.setSlc x).mpa = s.mpa := rfl
@[simp] theorem State.setSlc_chain (x : Slc) : (s.setSlc x).chain = s.chain := rfl
@[simp] theorem State.setSlc_log (x : Slc) : (s.setSlc x).log = s.log := rfl
@[simp] theorem State.setSlc_slc (x : Slc) : (s.setSlc x).slc = x := rfl
@[simp] theorem State.setSlc_config (x : Slc) : (s.setSlc x).config = s.config := rfl
@[simp] theorem State.setSlc_events (x : Slc) : (s.setSlc x).events = s.events := rfl
@[simp] theorem State.setSlc_freeIndex (x : Slc) : (s.setSlc x).freeIndex = s.freeIndex := rfl
@[simp] theorem State.setSlc_pending (x : Slc) : (s.setSlc x).pending = s.pending := rfl
@[simp] theorem State.setSlc_win (x : Slc) (w : WindowNo) : (s.setSlc x).win w = s.win w := rfl
@[simp] theorem State.setSlc_setSlc (x y : Slc) : (s.setSlc x).setSlc y = s.setSlc y := rfl
@[simp] theorem State.setSlc_self : s.setSlc s.slc = s := rfl

/-! ### `State.setConfig` -/

@[simp] theorem State.setConfig_resetn (x : ConfigRecord) : (s.setConfig x).resetn = s.resetn := rfl
@[simp] theorem State.setConfig_quiet (x : ConfigRecord) : (s.setConfig x).quiet = s.quiet := rfl
@[simp] theorem State.setConfig_lsel (x : ConfigRecord) : (s.setConfig x).lsel = s.lsel := rfl
@[simp] theorem State.setConfig_windows (x : ConfigRecord) : (s.setConfig x).windows = s.windows := rfl
@[simp] theorem State.setConfig_slots (x : ConfigRecord) : (s.setConfig x).slots = s.slots := rfl
@[simp] theorem State.setConfig_queue (x : ConfigRecord) : (s.setConfig x).queue = s.queue := rfl
@[simp] theorem State.setConfig_nextSeq (x : ConfigRecord) : (s.setConfig x).nextSeq = s.nextSeq := rfl
@[simp] theorem State.setConfig_drain (x : ConfigRecord) : (s.setConfig x).drain = s.drain := rfl
@[simp] theorem State.setConfig_hpi (x : ConfigRecord) : (s.setConfig x).hpi = s.hpi := rfl
@[simp] theorem State.setConfig_mpa (x : ConfigRecord) : (s.setConfig x).mpa = s.mpa := rfl
@[simp] theorem State.setConfig_chain (x : ConfigRecord) : (s.setConfig x).chain = s.chain := rfl
@[simp] theorem State.setConfig_log (x : ConfigRecord) : (s.setConfig x).log = s.log := rfl
@[simp] theorem State.setConfig_slc (x : ConfigRecord) : (s.setConfig x).slc = s.slc := rfl
@[simp] theorem State.setConfig_config (x : ConfigRecord) : (s.setConfig x).config = x := rfl
@[simp] theorem State.setConfig_events (x : ConfigRecord) : (s.setConfig x).events = s.events := rfl
@[simp] theorem State.setConfig_freeIndex (x : ConfigRecord) : (s.setConfig x).freeIndex = s.freeIndex := rfl
@[simp] theorem State.setConfig_pending (x : ConfigRecord) : (s.setConfig x).pending = s.pending := rfl
@[simp] theorem State.setConfig_win (x : ConfigRecord) (w : WindowNo) : (s.setConfig x).win w = s.win w := rfl
@[simp] theorem State.setConfig_setConfig (x y : ConfigRecord) : (s.setConfig x).setConfig y = s.setConfig y := rfl
@[simp] theorem State.setConfig_self : s.setConfig s.config = s := rfl

/-! ### `State.setEvents` -/

@[simp] theorem State.setEvents_resetn (x : EventSet) : (s.setEvents x).resetn = s.resetn := rfl
@[simp] theorem State.setEvents_quiet (x : EventSet) : (s.setEvents x).quiet = s.quiet := rfl
@[simp] theorem State.setEvents_lsel (x : EventSet) : (s.setEvents x).lsel = s.lsel := rfl
@[simp] theorem State.setEvents_windows (x : EventSet) : (s.setEvents x).windows = s.windows := rfl
@[simp] theorem State.setEvents_slots (x : EventSet) : (s.setEvents x).slots = s.slots := rfl
@[simp] theorem State.setEvents_queue (x : EventSet) : (s.setEvents x).queue = s.queue := rfl
@[simp] theorem State.setEvents_nextSeq (x : EventSet) : (s.setEvents x).nextSeq = s.nextSeq := rfl
@[simp] theorem State.setEvents_drain (x : EventSet) : (s.setEvents x).drain = s.drain := rfl
@[simp] theorem State.setEvents_hpi (x : EventSet) : (s.setEvents x).hpi = s.hpi := rfl
@[simp] theorem State.setEvents_mpa (x : EventSet) : (s.setEvents x).mpa = s.mpa := rfl
@[simp] theorem State.setEvents_chain (x : EventSet) : (s.setEvents x).chain = s.chain := rfl
@[simp] theorem State.setEvents_log (x : EventSet) : (s.setEvents x).log = s.log := rfl
@[simp] theorem State.setEvents_slc (x : EventSet) : (s.setEvents x).slc = s.slc := rfl
@[simp] theorem State.setEvents_config (x : EventSet) : (s.setEvents x).config = s.config := rfl
@[simp] theorem State.setEvents_events (x : EventSet) : (s.setEvents x).events = x := rfl
@[simp] theorem State.setEvents_freeIndex (x : EventSet) : (s.setEvents x).freeIndex = s.freeIndex := rfl
@[simp] theorem State.setEvents_pending (x : EventSet) : (s.setEvents x).pending = s.pending := rfl
@[simp] theorem State.setEvents_win (x : EventSet) (w : WindowNo) : (s.setEvents x).win w = s.win w := rfl
@[simp] theorem State.setEvents_setEvents (x y : EventSet) : (s.setEvents x).setEvents y = s.setEvents y := rfl
@[simp] theorem State.setEvents_self : s.setEvents s.events = s := rfl

/-! ### `State.setFreeIndex` -/

@[simp] theorem State.setFreeIndex_resetn (x : Nat) : (s.setFreeIndex x).resetn = s.resetn := rfl
@[simp] theorem State.setFreeIndex_quiet (x : Nat) : (s.setFreeIndex x).quiet = s.quiet := rfl
@[simp] theorem State.setFreeIndex_lsel (x : Nat) : (s.setFreeIndex x).lsel = s.lsel := rfl
@[simp] theorem State.setFreeIndex_windows (x : Nat) : (s.setFreeIndex x).windows = s.windows := rfl
@[simp] theorem State.setFreeIndex_slots (x : Nat) : (s.setFreeIndex x).slots = s.slots := rfl
@[simp] theorem State.setFreeIndex_queue (x : Nat) : (s.setFreeIndex x).queue = s.queue := rfl
@[simp] theorem State.setFreeIndex_nextSeq (x : Nat) : (s.setFreeIndex x).nextSeq = s.nextSeq := rfl
@[simp] theorem State.setFreeIndex_drain (x : Nat) : (s.setFreeIndex x).drain = s.drain := rfl
@[simp] theorem State.setFreeIndex_hpi (x : Nat) : (s.setFreeIndex x).hpi = s.hpi := rfl
@[simp] theorem State.setFreeIndex_mpa (x : Nat) : (s.setFreeIndex x).mpa = s.mpa := rfl
@[simp] theorem State.setFreeIndex_chain (x : Nat) : (s.setFreeIndex x).chain = s.chain := rfl
@[simp] theorem State.setFreeIndex_log (x : Nat) : (s.setFreeIndex x).log = s.log := rfl
@[simp] theorem State.setFreeIndex_slc (x : Nat) : (s.setFreeIndex x).slc = s.slc := rfl
@[simp] theorem State.setFreeIndex_config (x : Nat) : (s.setFreeIndex x).config = s.config := rfl
@[simp] theorem State.setFreeIndex_events (x : Nat) : (s.setFreeIndex x).events = s.events := rfl
@[simp] theorem State.setFreeIndex_freeIndex (x : Nat) : (s.setFreeIndex x).freeIndex = x := rfl
@[simp] theorem State.setFreeIndex_pending (x : Nat) : (s.setFreeIndex x).pending = s.pending := rfl
@[simp] theorem State.setFreeIndex_win (x : Nat) (w : WindowNo) : (s.setFreeIndex x).win w = s.win w := rfl
@[simp] theorem State.setFreeIndex_setFreeIndex (x y : Nat) : (s.setFreeIndex x).setFreeIndex y = s.setFreeIndex y := rfl
@[simp] theorem State.setFreeIndex_self : s.setFreeIndex s.freeIndex = s := rfl

/-! ### `State.setPending` -/

@[simp] theorem State.setPending_resetn (x : List Instr) : (s.setPending x).resetn = s.resetn := rfl
@[simp] theorem State.setPending_quiet (x : List Instr) : (s.setPending x).quiet = s.quiet := rfl
@[simp] theorem State.setPending_lsel (x : List Instr) : (s.setPending x).lsel = s.lsel := rfl
@[simp] theorem State.setPending_windows (x : List Instr) : (s.setPending x).windows = s.windows := rfl
@[simp] theorem State.setPending_slots (x : List Instr) : (s.setPending x).slots = s.slots := rfl
@[simp] theorem State.setPending_queue (x : List Instr) : (s.setPending x).queue = s.queue := rfl
@[simp] theorem State.setPending_nextSeq (x : List Instr) : (s.setPending x).nextSeq = s.nextSeq := rfl
@[simp] theorem State.setPending_drain (x : List Instr) : (s.setPending x).drain = s.drain := rfl
@[simp] theorem State.setPending_hpi (x : List Instr) : (s.setPending x).hpi = s.hpi := rfl
@[simp] theorem State.setPending_mpa (x : List Instr) : (s.setPending x).mpa = s.mpa := rfl
@[simp] theorem State.setPending_chain (x : List Instr) : (s.setPending x).chain = s.chain := rfl
@[simp] theorem State.setPending_log (x : List Instr) : (s.setPending x).log = s.log := rfl
@[simp] theorem State.setPending_slc (x : List Instr) : (s.setPending x).slc = s.slc := rfl
@[simp] theorem State.setPending_config (x : List Instr) : (s.setPending x).config = s.config := rfl
@[simp] theorem State.setPending_events (x : List Instr) : (s.setPending x).events = s.events := rfl
@[simp] theorem State.setPending_freeIndex (x : List Instr) : (s.setPending x).freeIndex = s.freeIndex := rfl
@[simp] theorem State.setPending_pending (x : List Instr) : (s.setPending x).pending = x := rfl
@[simp] theorem State.setPending_win (x : List Instr) (w : WindowNo) : (s.setPending x).win w = s.win w := rfl
@[simp] theorem State.setPending_setPending (x y : List Instr) : (s.setPending x).setPending y = s.setPending y := rfl
@[simp] theorem State.setPending_self : s.setPending s.pending = s := rfl

/-! ### `State.setActivity` -/

@[simp] theorem State.setActivity_resetn (x : DrainActivity) : (s.setActivity x).resetn = s.resetn := rfl
@[simp] theorem State.setActivity_quiet (x : DrainActivity) : (s.setActivity x).quiet = s.quiet := rfl
@[simp] theorem State.setActivity_lsel (x : DrainActivity) : (s.setActivity x).lsel = s.lsel := rfl
@[simp] theorem State.setActivity_windows (x : DrainActivity) : (s.setActivity x).windows = s.windows := rfl
@[simp] theorem State.setActivity_slots (x : DrainActivity) : (s.setActivity x).slots = s.slots := rfl
@[simp] theorem State.setActivity_queue (x : DrainActivity) : (s.setActivity x).queue = s.queue := rfl
@[simp] theorem State.setActivity_nextSeq (x : DrainActivity) : (s.setActivity x).nextSeq = s.nextSeq := rfl
@[simp] theorem State.setActivity_drain (x : DrainActivity) : (s.setActivity x).drain = { s.drain with activity := x } := rfl
@[simp] theorem State.setActivity_hpi (x : DrainActivity) : (s.setActivity x).hpi = s.hpi := rfl
@[simp] theorem State.setActivity_mpa (x : DrainActivity) : (s.setActivity x).mpa = s.mpa := rfl
@[simp] theorem State.setActivity_chain (x : DrainActivity) : (s.setActivity x).chain = s.chain := rfl
@[simp] theorem State.setActivity_log (x : DrainActivity) : (s.setActivity x).log = s.log := rfl
@[simp] theorem State.setActivity_slc (x : DrainActivity) : (s.setActivity x).slc = s.slc := rfl
@[simp] theorem State.setActivity_config (x : DrainActivity) : (s.setActivity x).config = s.config := rfl
@[simp] theorem State.setActivity_events (x : DrainActivity) : (s.setActivity x).events = s.events := rfl
@[simp] theorem State.setActivity_freeIndex (x : DrainActivity) : (s.setActivity x).freeIndex = s.freeIndex := rfl
@[simp] theorem State.setActivity_pending (x : DrainActivity) : (s.setActivity x).pending = s.pending := rfl
@[simp] theorem State.setActivity_win (x : DrainActivity) (w : WindowNo) : (s.setActivity x).win w = s.win w := rfl

/-! ### `State.setPhase` -/

@[simp] theorem State.setPhase_resetn (x : DrainPhase) : (s.setPhase x).resetn = s.resetn := rfl
@[simp] theorem State.setPhase_quiet (x : DrainPhase) : (s.setPhase x).quiet = s.quiet := rfl
@[simp] theorem State.setPhase_lsel (x : DrainPhase) : (s.setPhase x).lsel = s.lsel := rfl
@[simp] theorem State.setPhase_windows (x : DrainPhase) : (s.setPhase x).windows = s.windows := rfl
@[simp] theorem State.setPhase_slots (x : DrainPhase) : (s.setPhase x).slots = s.slots := rfl
@[simp] theorem State.setPhase_queue (x : DrainPhase) : (s.setPhase x).queue = s.queue := rfl
@[simp] theorem State.setPhase_nextSeq (x : DrainPhase) : (s.setPhase x).nextSeq = s.nextSeq := rfl
@[simp] theorem State.setPhase_drain (x : DrainPhase) : (s.setPhase x).drain = { s.drain with phase := x } := rfl
@[simp] theorem State.setPhase_hpi (x : DrainPhase) : (s.setPhase x).hpi = s.hpi := rfl
@[simp] theorem State.setPhase_mpa (x : DrainPhase) : (s.setPhase x).mpa = s.mpa := rfl
@[simp] theorem State.setPhase_chain (x : DrainPhase) : (s.setPhase x).chain = s.chain := rfl
@[simp] theorem State.setPhase_log (x : DrainPhase) : (s.setPhase x).log = s.log := rfl
@[simp] theorem State.setPhase_slc (x : DrainPhase) : (s.setPhase x).slc = s.slc := rfl
@[simp] theorem State.setPhase_config (x : DrainPhase) : (s.setPhase x).config = s.config := rfl
@[simp] theorem State.setPhase_events (x : DrainPhase) : (s.setPhase x).events = s.events := rfl
@[simp] theorem State.setPhase_freeIndex (x : DrainPhase) : (s.setPhase x).freeIndex = s.freeIndex := rfl
@[simp] theorem State.setPhase_pending (x : DrainPhase) : (s.setPhase x).pending = s.pending := rfl
@[simp] theorem State.setPhase_win (x : DrainPhase) (w : WindowNo) : (s.setPhase x).win w = s.win w := rfl

/-! ### `State.setRemainder` -/

@[simp] theorem State.setRemainder_resetn (x : Nat) : (s.setRemainder x).resetn = s.resetn := rfl
@[simp] theorem State.setRemainder_quiet (x : Nat) : (s.setRemainder x).quiet = s.quiet := rfl
@[simp] theorem State.setRemainder_lsel (x : Nat) : (s.setRemainder x).lsel = s.lsel := rfl
@[simp] theorem State.setRemainder_windows (x : Nat) : (s.setRemainder x).windows = s.windows := rfl
@[simp] theorem State.setRemainder_slots (x : Nat) : (s.setRemainder x).slots = s.slots := rfl
@[simp] theorem State.setRemainder_queue (x : Nat) : (s.setRemainder x).queue = s.queue := rfl
@[simp] theorem State.setRemainder_nextSeq (x : Nat) : (s.setRemainder x).nextSeq = s.nextSeq := rfl
@[simp] theorem State.setRemainder_drain (x : Nat) : (s.setRemainder x).drain = { s.drain with remainder := x } := rfl
@[simp] theorem State.setRemainder_hpi (x : Nat) : (s.setRemainder x).hpi = s.hpi := rfl
@[simp] theorem State.setRemainder_mpa (x : Nat) : (s.setRemainder x).mpa = s.mpa := rfl
@[simp] theorem State.setRemainder_chain (x : Nat) : (s.setRemainder x).chain = s.chain := rfl
@[simp] theorem State.setRemainder_log (x : Nat) : (s.setRemainder x).log = s.log := rfl
@[simp] theorem State.setRemainder_slc (x : Nat) : (s.setRemainder x).slc = s.slc := rfl
@[simp] theorem State.setRemainder_config (x : Nat) : (s.setRemainder x).config = s.config := rfl
@[simp] theorem State.setRemainder_events (x : Nat) : (s.setRemainder x).events = s.events := rfl
@[simp] theorem State.setRemainder_freeIndex (x : Nat) : (s.setRemainder x).freeIndex = s.freeIndex := rfl
@[simp] theorem State.setRemainder_pending (x : Nat) : (s.setRemainder x).pending = s.pending := rfl
@[simp] theorem State.setRemainder_win (x : Nat) (w : WindowNo) : (s.setRemainder x).win w = s.win w := rfl

/-! ### `State.setBegun` -/

@[simp] theorem State.setBegun_resetn (x : Bool) : (s.setBegun x).resetn = s.resetn := rfl
@[simp] theorem State.setBegun_quiet (x : Bool) : (s.setBegun x).quiet = s.quiet := rfl
@[simp] theorem State.setBegun_lsel (x : Bool) : (s.setBegun x).lsel = s.lsel := rfl
@[simp] theorem State.setBegun_windows (x : Bool) : (s.setBegun x).windows = s.windows := rfl
@[simp] theorem State.setBegun_slots (x : Bool) : (s.setBegun x).slots = s.slots := rfl
@[simp] theorem State.setBegun_queue (x : Bool) : (s.setBegun x).queue = s.queue := rfl
@[simp] theorem State.setBegun_nextSeq (x : Bool) : (s.setBegun x).nextSeq = s.nextSeq := rfl
@[simp] theorem State.setBegun_drain (x : Bool) : (s.setBegun x).drain = { s.drain with begun := x } := rfl
@[simp] theorem State.setBegun_hpi (x : Bool) : (s.setBegun x).hpi = s.hpi := rfl
@[simp] theorem State.setBegun_mpa (x : Bool) : (s.setBegun x).mpa = s.mpa := rfl
@[simp] theorem State.setBegun_chain (x : Bool) : (s.setBegun x).chain = s.chain := rfl
@[simp] theorem State.setBegun_log (x : Bool) : (s.setBegun x).log = s.log := rfl
@[simp] theorem State.setBegun_slc (x : Bool) : (s.setBegun x).slc = s.slc := rfl
@[simp] theorem State.setBegun_config (x : Bool) : (s.setBegun x).config = s.config := rfl
@[simp] theorem State.setBegun_events (x : Bool) : (s.setBegun x).events = s.events := rfl
@[simp] theorem State.setBegun_freeIndex (x : Bool) : (s.setBegun x).freeIndex = s.freeIndex := rfl
@[simp] theorem State.setBegun_pending (x : Bool) : (s.setBegun x).pending = s.pending := rfl
@[simp] theorem State.setBegun_win (x : Bool) (w : WindowNo) : (s.setBegun x).win w = s.win w := rfl

/-! ### `State.setTimer` -/

@[simp] theorem State.setTimer_resetn (x : StarvationTimer) : (s.setTimer x).resetn = s.resetn := rfl
@[simp] theorem State.setTimer_quiet (x : StarvationTimer) : (s.setTimer x).quiet = s.quiet := rfl
@[simp] theorem State.setTimer_lsel (x : StarvationTimer) : (s.setTimer x).lsel = s.lsel := rfl
@[simp] theorem State.setTimer_windows (x : StarvationTimer) : (s.setTimer x).windows = s.windows := rfl
@[simp] theorem State.setTimer_slots (x : StarvationTimer) : (s.setTimer x).slots = s.slots := rfl
@[simp] theorem State.setTimer_queue (x : StarvationTimer) : (s.setTimer x).queue = s.queue := rfl
@[simp] theorem State.setTimer_nextSeq (x : StarvationTimer) : (s.setTimer x).nextSeq = s.nextSeq := rfl
@[simp] theorem State.setTimer_drain (x : StarvationTimer) : (s.setTimer x).drain = { s.drain with timer := x } := rfl
@[simp] theorem State.setTimer_hpi (x : StarvationTimer) : (s.setTimer x).hpi = s.hpi := rfl
@[simp] theorem State.setTimer_mpa (x : StarvationTimer) : (s.setTimer x).mpa = s.mpa := rfl
@[simp] theorem State.setTimer_chain (x : StarvationTimer) : (s.setTimer x).chain = s.chain := rfl
@[simp] theorem State.setTimer_log (x : StarvationTimer) : (s.setTimer x).log = s.log := rfl
@[simp] theorem State.setTimer_slc (x : StarvationTimer) : (s.setTimer x).slc = s.slc := rfl
@[simp] theorem State.setTimer_config (x : StarvationTimer) : (s.setTimer x).config = s.config := rfl
@[simp] theorem State.setTimer_events (x : StarvationTimer) : (s.setTimer x).events = s.events := rfl
@[simp] theorem State.setTimer_freeIndex (x : StarvationTimer) : (s.setTimer x).freeIndex = s.freeIndex := rfl
@[simp] theorem State.setTimer_pending (x : StarvationTimer) : (s.setTimer x).pending = s.pending := rfl
@[simp] theorem State.setTimer_win (x : StarvationTimer) (w : WindowNo) : (s.setTimer x).win w = s.win w := rfl

/-! ### `State.setInterlock` -/

@[simp] theorem State.setInterlock_resetn (x : Option Nat) : (s.setInterlock x).resetn = s.resetn := rfl
@[simp] theorem State.setInterlock_quiet (x : Option Nat) : (s.setInterlock x).quiet = s.quiet := rfl
@[simp] theorem State.setInterlock_lsel (x : Option Nat) : (s.setInterlock x).lsel = s.lsel := rfl
@[simp] theorem State.setInterlock_windows (x : Option Nat) : (s.setInterlock x).windows = s.windows := rfl
@[simp] theorem State.setInterlock_slots (x : Option Nat) : (s.setInterlock x).slots = s.slots := rfl
@[simp] theorem State.setInterlock_queue (x : Option Nat) : (s.setInterlock x).queue = s.queue := rfl
@[simp] theorem State.setInterlock_nextSeq (x : Option Nat) : (s.setInterlock x).nextSeq = s.nextSeq := rfl
@[simp] theorem State.setInterlock_drain (x : Option Nat) : (s.setInterlock x).drain = s.drain := rfl
@[simp] theorem State.setInterlock_hpi (x : Option Nat) : (s.setInterlock x).hpi = s.hpi := rfl
@[simp] theorem State.setInterlock_mpa (x : Option Nat) : (s.setInterlock x).mpa = { s.mpa with interlock := x } := rfl
@[simp] theorem State.setInterlock_chain (x : Option Nat) : (s.setInterlock x).chain = s.chain := rfl
@[simp] theorem State.setInterlock_log (x : Option Nat) : (s.setInterlock x).log = s.log := rfl
@[simp] theorem State.setInterlock_slc (x : Option Nat) : (s.setInterlock x).slc = s.slc := rfl
@[simp] theorem State.setInterlock_config (x : Option Nat) : (s.setInterlock x).config = s.config := rfl
@[simp] theorem State.setInterlock_events (x : Option Nat) : (s.setInterlock x).events = s.events := rfl
@[simp] theorem State.setInterlock_freeIndex (x : Option Nat) : (s.setInterlock x).freeIndex = s.freeIndex := rfl
@[simp] theorem State.setInterlock_pending (x : Option Nat) : (s.setInterlock x).pending = s.pending := rfl
@[simp] theorem State.setInterlock_win (x : Option Nat) (w : WindowNo) : (s.setInterlock x).win w = s.win w := rfl

/-! ### `State.setResponses` -/

@[simp] theorem State.setResponses_resetn (x : List Place) : (s.setResponses x).resetn = s.resetn := rfl
@[simp] theorem State.setResponses_quiet (x : List Place) : (s.setResponses x).quiet = s.quiet := rfl
@[simp] theorem State.setResponses_lsel (x : List Place) : (s.setResponses x).lsel = s.lsel := rfl
@[simp] theorem State.setResponses_windows (x : List Place) : (s.setResponses x).windows = s.windows := rfl
@[simp] theorem State.setResponses_slots (x : List Place) : (s.setResponses x).slots = s.slots := rfl
@[simp] theorem State.setResponses_queue (x : List Place) : (s.setResponses x).queue = s.queue := rfl
@[simp] theorem State.setResponses_nextSeq (x : List Place) : (s.setResponses x).nextSeq = s.nextSeq := rfl
@[simp] theorem State.setResponses_drain (x : List Place) : (s.setResponses x).drain = s.drain := rfl
@[simp] theorem State.setResponses_hpi (x : List Place) : (s.setResponses x).hpi = s.hpi := rfl
@[simp] theorem State.setResponses_mpa (x : List Place) : (s.setResponses x).mpa = s.mpa := rfl
@[simp] theorem State.setResponses_chain (x : List Place) : (s.setResponses x).chain = s.chain := rfl
@[simp] theorem State.setResponses_log (x : List Place) : (s.setResponses x).log = s.log := rfl
@[simp] theorem State.setResponses_slc (x : List Place) : (s.setResponses x).slc = { s.slc with responses := x } := rfl
@[simp] theorem State.setResponses_config (x : List Place) : (s.setResponses x).config = s.config := rfl
@[simp] theorem State.setResponses_events (x : List Place) : (s.setResponses x).events = s.events := rfl
@[simp] theorem State.setResponses_freeIndex (x : List Place) : (s.setResponses x).freeIndex = s.freeIndex := rfl
@[simp] theorem State.setResponses_pending (x : List Place) : (s.setResponses x).pending = s.pending := rfl
@[simp] theorem State.setResponses_win (x : List Place) (w : WindowNo) : (s.setResponses x).win w = s.win w := rfl

/-! ### `State.setAssembler` -/

@[simp] theorem State.setAssembler_resetn (x : Assembler) : (s.setAssembler x).resetn = s.resetn := rfl
@[simp] theorem State.setAssembler_quiet (x : Assembler) : (s.setAssembler x).quiet = s.quiet := rfl
@[simp] theorem State.setAssembler_lsel (x : Assembler) : (s.setAssembler x).lsel = s.lsel := rfl
@[simp] theorem State.setAssembler_windows (x : Assembler) : (s.setAssembler x).windows = s.windows := rfl
@[simp] theorem State.setAssembler_slots (x : Assembler) : (s.setAssembler x).slots = s.slots := rfl
@[simp] theorem State.setAssembler_queue (x : Assembler) : (s.setAssembler x).queue = s.queue := rfl
@[simp] theorem State.setAssembler_nextSeq (x : Assembler) : (s.setAssembler x).nextSeq = s.nextSeq := rfl
@[simp] theorem State.setAssembler_drain (x : Assembler) : (s.setAssembler x).drain = s.drain := rfl
@[simp] theorem State.setAssembler_hpi (x : Assembler) : (s.setAssembler x).hpi = s.hpi := rfl
@[simp] theorem State.setAssembler_mpa (x : Assembler) : (s.setAssembler x).mpa = s.mpa := rfl
@[simp] theorem State.setAssembler_chain (x : Assembler) : (s.setAssembler x).chain = s.chain := rfl
@[simp] theorem State.setAssembler_log (x : Assembler) : (s.setAssembler x).log = s.log := rfl
@[simp] theorem State.setAssembler_slc (x : Assembler) : (s.setAssembler x).slc = { s.slc with assembler := x } := rfl
@[simp] theorem State.setAssembler_config (x : Assembler) : (s.setAssembler x).config = s.config := rfl
@[simp] theorem State.setAssembler_events (x : Assembler) : (s.setAssembler x).events = s.events := rfl
@[simp] theorem State.setAssembler_freeIndex (x : Assembler) : (s.setAssembler x).freeIndex = s.freeIndex := rfl
@[simp] theorem State.setAssembler_pending (x : Assembler) : (s.setAssembler x).pending = s.pending := rfl
@[simp] theorem State.setAssembler_win (x : Assembler) (w : WindowNo) : (s.setAssembler x).win w = s.win w := rfl

/-! ### `State.setEvent` -/

@[simp] theorem State.setEvent_resetn (x : Event) : (s.setEvent x).resetn = s.resetn := rfl
@[simp] theorem State.setEvent_quiet (x : Event) : (s.setEvent x).quiet = s.quiet := rfl
@[simp] theorem State.setEvent_lsel (x : Event) : (s.setEvent x).lsel = s.lsel := rfl
@[simp] theorem State.setEvent_windows (x : Event) : (s.setEvent x).windows = s.windows := rfl
@[simp] theorem State.setEvent_slots (x : Event) : (s.setEvent x).slots = s.slots := rfl
@[simp] theorem State.setEvent_queue (x : Event) : (s.setEvent x).queue = s.queue := rfl
@[simp] theorem State.setEvent_nextSeq (x : Event) : (s.setEvent x).nextSeq = s.nextSeq := rfl
@[simp] theorem State.setEvent_drain (x : Event) : (s.setEvent x).drain = s.drain := rfl
@[simp] theorem State.setEvent_hpi (x : Event) : (s.setEvent x).hpi = s.hpi := rfl
@[simp] theorem State.setEvent_mpa (x : Event) : (s.setEvent x).mpa = s.mpa := rfl
@[simp] theorem State.setEvent_chain (x : Event) : (s.setEvent x).chain = s.chain := rfl
@[simp] theorem State.setEvent_log (x : Event) : (s.setEvent x).log = s.log := rfl
@[simp] theorem State.setEvent_slc (x : Event) : (s.setEvent x).slc = s.slc := rfl
@[simp] theorem State.setEvent_config (x : Event) : (s.setEvent x).config = s.config := rfl
@[simp] theorem State.setEvent_events (x : Event) : (s.setEvent x).events = EventSet.with s.events x := rfl
@[simp] theorem State.setEvent_freeIndex (x : Event) : (s.setEvent x).freeIndex = s.freeIndex := rfl
@[simp] theorem State.setEvent_pending (x : Event) : (s.setEvent x).pending = s.pending := rfl
@[simp] theorem State.setEvent_win (x : Event) (w : WindowNo) : (s.setEvent x).win w = s.win w := rfl

/-! ### `State.setWin` -/

@[simp] theorem State.setWin_resetn (w : WindowNo) (e : WindowEntry) : (s.setWin w e).resetn = s.resetn := rfl
@[simp] theorem State.setWin_quiet (w : WindowNo) (e : WindowEntry) : (s.setWin w e).quiet = s.quiet := rfl
@[simp] theorem State.setWin_lsel (w : WindowNo) (e : WindowEntry) : (s.setWin w e).lsel = s.lsel := rfl
@[simp] theorem State.setWin_slots (w : WindowNo) (e : WindowEntry) : (s.setWin w e).slots = s.slots := rfl
@[simp] theorem State.setWin_queue (w : WindowNo) (e : WindowEntry) : (s.setWin w e).queue = s.queue := rfl
@[simp] theorem State.setWin_nextSeq (w : WindowNo) (e : WindowEntry) : (s.setWin w e).nextSeq = s.nextSeq := rfl
@[simp] theorem State.setWin_drain (w : WindowNo) (e : WindowEntry) : (s.setWin w e).drain = s.drain := rfl
@[simp] theorem State.setWin_hpi (w : WindowNo) (e : WindowEntry) : (s.setWin w e).hpi = s.hpi := rfl
@[simp] theorem State.setWin_mpa (w : WindowNo) (e : WindowEntry) : (s.setWin w e).mpa = s.mpa := rfl
@[simp] theorem State.setWin_chain (w : WindowNo) (e : WindowEntry) : (s.setWin w e).chain = s.chain := rfl
@[simp] theorem State.setWin_log (w : WindowNo) (e : WindowEntry) : (s.setWin w e).log = s.log := rfl
@[simp] theorem State.setWin_slc (w : WindowNo) (e : WindowEntry) : (s.setWin w e).slc = s.slc := rfl
@[simp] theorem State.setWin_config (w : WindowNo) (e : WindowEntry) : (s.setWin w e).config = s.config := rfl
@[simp] theorem State.setWin_events (w : WindowNo) (e : WindowEntry) : (s.setWin w e).events = s.events := rfl
@[simp] theorem State.setWin_freeIndex (w : WindowNo) (e : WindowEntry) : (s.setWin w e).freeIndex = s.freeIndex := rfl
@[simp] theorem State.setWin_pending (w : WindowNo) (e : WindowEntry) : (s.setWin w e).pending = s.pending := rfl

/-! ### `State.mapWindows` -/

@[simp] theorem State.mapWindows_resetn (f : WindowNo → WindowEntry → WindowEntry) : (s.mapWindows f).resetn = s.resetn := rfl
@[simp] theorem State.mapWindows_quiet (f : WindowNo → WindowEntry → WindowEntry) : (s.mapWindows f).quiet = s.quiet := rfl
@[simp] theorem State.mapWindows_lsel (f : WindowNo → WindowEntry → WindowEntry) : (s.mapWindows f).lsel = s.lsel := rfl
@[simp] theorem State.mapWindows_slots (f : WindowNo → WindowEntry → WindowEntry) : (s.mapWindows f).slots = s.slots := rfl
@[simp] theorem State.mapWindows_queue (f : WindowNo → WindowEntry → WindowEntry) : (s.mapWindows f).queue = s.queue := rfl
@[simp] theorem State.mapWindows_nextSeq (f : WindowNo → WindowEntry → WindowEntry) : (s.mapWindows f).nextSeq = s.nextSeq := rfl
@[simp] theorem State.mapWindows_drain (f : WindowNo → WindowEntry → WindowEntry) : (s.mapWindows f).drain = s.drain := rfl
@[simp] theorem State.mapWindows_hpi (f : WindowNo → WindowEntry → WindowEntry) : (s.mapWindows f).hpi = s.hpi := rfl
@[simp] theorem State.mapWindows_mpa (f : WindowNo → WindowEntry → WindowEntry) : (s.mapWindows f).mpa = s.mpa := rfl
@[simp] theorem State.mapWindows_chain (f : WindowNo → WindowEntry → WindowEntry) : (s.mapWindows f).chain = s.chain := rfl
@[simp] theorem State.mapWindows_log (f : WindowNo → WindowEntry → WindowEntry) : (s.mapWindows f).log = s.log := rfl
@[simp] theorem State.mapWindows_slc (f : WindowNo → WindowEntry → WindowEntry) : (s.mapWindows f).slc = s.slc := rfl
@[simp] theorem State.mapWindows_config (f : WindowNo → WindowEntry → WindowEntry) : (s.mapWindows f).config = s.config := rfl
@[simp] theorem State.mapWindows_events (f : WindowNo → WindowEntry → WindowEntry) : (s.mapWindows f).events = s.events := rfl
@[simp] theorem State.mapWindows_freeIndex (f : WindowNo → WindowEntry → WindowEntry) : (s.mapWindows f).freeIndex = s.freeIndex := rfl
@[simp] theorem State.mapWindows_pending (f : WindowNo → WindowEntry → WindowEntry) : (s.mapWindows f).pending = s.pending := rfl

/-! ### `State.markGroup` -/

@[simp] theorem State.markGroup_resetn (w : WindowNo) (f : GroupFlags → GroupFlags) : (s.markGroup w f).resetn = s.resetn := rfl
@[simp] theorem State.markGroup_quiet (w : WindowNo) (f : GroupFlags → GroupFlags) : (s.markGroup w f).quiet = s.quiet := rfl
@[simp] theorem State.markGroup_lsel (w : WindowNo) (f : GroupFlags → GroupFlags) : (s.markGroup w f).lsel = s.lsel := rfl
@[simp] theorem State.markGroup_slots (w : WindowNo) (f : GroupFlags → GroupFlags) : (s.markGroup w f).slots = s.slots := rfl
@[simp] theorem State.markGroup_queue (w : WindowNo) (f : GroupFlags → GroupFlags) : (s.markGroup w f).queue = s.queue := rfl
@[simp] theorem State.markGroup_nextSeq (w : WindowNo) (f : GroupFlags → GroupFlags) : (s.markGroup w f).nextSeq = s.nextSeq := rfl
@[simp] theorem State.markGroup_drain (w : WindowNo) (f : GroupFlags → GroupFlags) : (s.markGroup w f).drain = s.drain := rfl
@[simp] theorem State.markGroup_hpi (w : WindowNo) (f : GroupFlags → GroupFlags) : (s.markGroup w f).hpi = s.hpi := rfl
@[simp] theorem State.markGroup_mpa (w : WindowNo) (f : GroupFlags → GroupFlags) : (s.markGroup w f).mpa = s.mpa := rfl
@[simp] theorem State.markGroup_chain (w : WindowNo) (f : GroupFlags → GroupFlags) : (s.markGroup w f).chain = s.chain := rfl
@[simp] theorem State.markGroup_log (w : WindowNo) (f : GroupFlags → GroupFlags) : (s.markGroup w f).log = s.log := rfl
@[simp] theorem State.markGroup_slc (w : WindowNo) (f : GroupFlags → GroupFlags) : (s.markGroup w f).slc = s.slc := rfl
@[simp] theorem State.markGroup_config (w : WindowNo) (f : GroupFlags → GroupFlags) : (s.markGroup w f).config = s.config := rfl
@[simp] theorem State.markGroup_events (w : WindowNo) (f : GroupFlags → GroupFlags) : (s.markGroup w f).events = s.events := rfl
@[simp] theorem State.markGroup_freeIndex (w : WindowNo) (f : GroupFlags → GroupFlags) : (s.markGroup w f).freeIndex = s.freeIndex := rfl
@[simp] theorem State.markGroup_pending (w : WindowNo) (f : GroupFlags → GroupFlags) : (s.markGroup w f).pending = s.pending := rfl

/-! ### `State.arbitrate` -/

@[simp] theorem State.arbitrate_resetn : (s.arbitrate).resetn = s.resetn := rfl
@[simp] theorem State.arbitrate_quiet : (s.arbitrate).quiet = s.quiet := rfl
@[simp] theorem State.arbitrate_lsel : (s.arbitrate).lsel = s.lsel := rfl
@[simp] theorem State.arbitrate_windows : (s.arbitrate).windows = s.windows := rfl
@[simp] theorem State.arbitrate_slots : (s.arbitrate).slots = s.slots := rfl
@[simp] theorem State.arbitrate_queue : (s.arbitrate).queue = s.queue := rfl
@[simp] theorem State.arbitrate_nextSeq : (s.arbitrate).nextSeq = s.nextSeq := rfl
@[simp] theorem State.arbitrate_drain : (s.arbitrate).drain = s.drain := rfl
@[simp] theorem State.arbitrate_hpi : (s.arbitrate).hpi = s.hpi := rfl
@[simp] theorem State.arbitrate_chain : (s.arbitrate).chain = s.chain := rfl
@[simp] theorem State.arbitrate_log : (s.arbitrate).log = s.log := rfl
@[simp] theorem State.arbitrate_slc : (s.arbitrate).slc = s.slc := rfl
@[simp] theorem State.arbitrate_config : (s.arbitrate).config = s.config := rfl
@[simp] theorem State.arbitrate_events : (s.arbitrate).events = s.events := rfl
@[simp] theorem State.arbitrate_freeIndex : (s.arbitrate).freeIndex = s.freeIndex := rfl
@[simp] theorem State.arbitrate_pending : (s.arbitrate).pending = s.pending := rfl

@[simp] theorem State.arbitrate_mpa : s.arbitrate.mpa = s.mpa.arbitrate := rfl
@[simp] theorem State.arbitrate_win (w : WindowNo) : s.arbitrate.win w = s.win w := rfl

/-! ### The entries of the window table -/

/-- Only the entry written changes. -/
@[simp] theorem State.setWin_win (w v : WindowNo) (e : WindowEntry) : (s.setWin w e).win v = if v = w then e else s.win v := by
  simp only [State.setWin, State.win, State.setWindows, Vector.getElem_set, Fin.ext_iff, eq_comm]

/-- Each entry is changed by the function of its own number. -/
@[simp] theorem State.mapWindows_win (f : WindowNo → WindowEntry → WindowEntry) (w : WindowNo) :
    (s.mapWindows f).win w = f w (s.win w) := by
  simp [State.mapWindows, State.win, State.setWindows]

/-- A flag is set on the open group of one window. -/
@[simp] theorem State.markGroup_win (w v : WindowNo) (f : GroupFlags → GroupFlags) :
    (s.markGroup w f).win v = if v = w then (s.win w).markGroup f else s.win v := by
  simp [State.markGroup]

/-- Two tables with the same sixteen entries are the same. -/
theorem State.windows_ext {s t : State} (h : ∀ w, s.win w = t.win w) : s.windows = t.windows := by
  ext i hi
  exact h ⟨i, hi⟩

/-- Writing back the entry that stands changes nothing. -/
@[simp] theorem State.setWin_self (w : WindowNo) : s.setWin w (s.win w) = s := by
  have h : (s.setWin w (s.win w)).windows = s.windows := State.windows_ext fun v => by
    rw [State.setWin_win]; split <;> simp_all
  show s.setWindows _ = s
  have h' : s.windows.set w.val (s.win w) w.isLt = s.windows := h
  rw [h']; rfl

end Sys2Proof.Machine
end

