-- ==== Sys2Proof/Laws/Aside.lean ====
section
/-! SUPPORT. The operations of the blocks below the setup link neither read nor change the setup link controller and the queue of
commands: each of them commutes with putting another controller and another queue in their place. Two things follow for each:
it leaves both as they were, and a request does on every state of the link what it does on one. -/

namespace Sys2Proof.Machine

/-- The state with another setup link controller and another queue of waiting commands. -/
def State.aside (s : State) (x : Slc) (p : List Instr) : State := (s.setSlc x).setPending p

variable (s : State) (x : Slc) (p : List Instr)

/-- An operation that commutes with `State.aside` leaves the controller and the waiting commands as they were. -/
theorem State.aside_frame {f : State → State} (h : ∀ x p, f (s.aside x p) = (f s).aside x p) :
    (f s).slc = s.slc ∧ (f s).pending = s.pending := by
  have h' : f s = (f s).aside s.slc s.pending := h s.slc s.pending
  constructor
  · rw [h']; rfl
  · rw [h']; rfl


@[simp] theorem State.aside_resetn : (s.aside x p).resetn = s.resetn := rfl
@[simp] theorem State.aside_quiet : (s.aside x p).quiet = s.quiet := rfl
@[simp] theorem State.aside_lsel : (s.aside x p).lsel = s.lsel := rfl
@[simp] theorem State.aside_windows : (s.aside x p).windows = s.windows := rfl
@[simp] theorem State.aside_slots : (s.aside x p).slots = s.slots := rfl
@[simp] theorem State.aside_queue : (s.aside x p).queue = s.queue := rfl
@[simp] theorem State.aside_nextSeq : (s.aside x p).nextSeq = s.nextSeq := rfl
@[simp] theorem State.aside_drain : (s.aside x p).drain = s.drain := rfl
@[simp] theorem State.aside_hpi : (s.aside x p).hpi = s.hpi := rfl
@[simp] theorem State.aside_mpa : (s.aside x p).mpa = s.mpa := rfl
@[simp] theorem State.aside_chain : (s.aside x p).chain = s.chain := rfl
@[simp] theorem State.aside_log : (s.aside x p).log = s.log := rfl
@[simp] theorem State.aside_config : (s.aside x p).config = s.config := rfl
@[simp] theorem State.aside_events : (s.aside x p).events = s.events := rfl
@[simp] theorem State.aside_freeIndex : (s.aside x p).freeIndex = s.freeIndex := rfl
@[simp] theorem State.aside_slc : (s.aside x p).slc = x := rfl
@[simp] theorem State.aside_pending : (s.aside x p).pending = p := rfl

@[simp] theorem State.setResetn_aside (v : Bool) : (s.aside x p).setResetn v = (s.setResetn v).aside x p := rfl
@[simp] theorem State.setQuiet_aside (v : Bool) : (s.aside x p).setQuiet v = (s.setQuiet v).aside x p := rfl
@[simp] theorem State.setLsel_aside (v : Bool) : (s.aside x p).setLsel v = (s.setLsel v).aside x p := rfl
@[simp] theorem State.setWindows_aside (v : Vector WindowEntry 16) : (s.aside x p).setWindows v = (s.setWindows v).aside x p := rfl
@[simp] theorem State.setSlots_aside (v : List Slot) : (s.aside x p).setSlots v = (s.setSlots v).aside x p := rfl
@[simp] theorem State.setQueue_aside (v : List BatchRecord) : (s.aside x p).setQueue v = (s.setQueue v).aside x p := rfl
@[simp] theorem State.setNextSeq_aside (v : Sequence) : (s.aside x p).setNextSeq v = (s.setNextSeq v).aside x p := rfl
@[simp] theorem State.setDrain_aside (v : DrainEngine) : (s.aside x p).setDrain v = (s.setDrain v).aside x p := rfl
@[simp] theorem State.setHpi_aside (v : Hpi) : (s.aside x p).setHpi v = (s.setHpi v).aside x p := rfl
@[simp] theorem State.setMpa_aside (v : Mpa) : (s.aside x p).setMpa v = (s.setMpa v).aside x p := rfl
@[simp] theorem State.setChain_aside (v : BitVec 32) : (s.aside x p).setChain v = (s.setChain v).aside x p := rfl
@[simp] theorem State.setLog_aside (v : CompletionLog) : (s.aside x p).setLog v = (s.setLog v).aside x p := rfl
@[simp] theorem State.setConfig_aside (v : ConfigRecord) : (s.aside x p).setConfig v = (s.setConfig v).aside x p := rfl
@[simp] theorem State.setEvents_aside (v : EventSet) : (s.aside x p).setEvents v = (s.setEvents v).aside x p := rfl
@[simp] theorem State.setFreeIndex_aside (v : Nat) : (s.aside x p).setFreeIndex v = (s.setFreeIndex v).aside x p := rfl
@[simp] theorem State.setActivity_aside (v : DrainActivity) : (s.aside x p).setActivity v = (s.setActivity v).aside x p := rfl
@[simp] theorem State.setPhase_aside (v : DrainPhase) : (s.aside x p).setPhase v = (s.setPhase v).aside x p := rfl
@[simp] theorem State.setBegun_aside (v : Bool) : (s.aside x p).setBegun v = (s.setBegun v).aside x p := rfl
@[simp] theorem State.setTimer_aside (v : StarvationTimer) : (s.aside x p).setTimer v = (s.setTimer v).aside x p := rfl
@[simp] theorem State.setInterlock_aside (v : Option Nat) : (s.aside x p).setInterlock v = (s.setInterlock v).aside x p := rfl
@[simp] theorem State.setEvent_aside (v : Event) : (s.aside x p).setEvent v = (s.setEvent v).aside x p := rfl

@[simp] theorem State.win_aside (w : WindowNo) : (s.aside x p).win w = s.win w := rfl
@[simp] theorem State.windowAt_aside (a : Nat) : (s.aside x p).windowAt a = s.windowAt a := rfl
@[simp] theorem State.freeSlotCount_aside : (s.aside x p).freeSlotCount = s.freeSlotCount := rfl
@[simp] theorem State.stagedLanes_aside (w : WindowNo) (a : Nat) : (s.aside x p).stagedLanes w a = s.stagedLanes w a := rfl
@[simp] theorem State.freedCount_aside (q : Slot → Bool) : (s.aside x p).freedCount q = s.freedCount q := rfl
@[simp] theorem State.drainingHead_aside : (s.aside x p).drainingHead = s.drainingHead := rfl
@[simp] theorem State.slotAt_aside (k : Member × Nat) : (s.aside x p).slotAt k = s.slotAt k := rfl
@[simp] theorem State.linesLeft_aside (l : LineInProgress) : (s.aside x p).linesLeft l = s.linesLeft l := rfl
@[simp] theorem State.headFits_aside (r : BatchRecord) : (s.aside x p).headFits r = s.headFits r := rfl
@[simp] theorem State.startable_aside : (s.aside x p).startable = s.startable := rfl
@[simp] theorem State.timerRuns_aside : (s.aside x p).timerRuns = s.timerRuns := rfl
@[simp] theorem State.wipeCounts_aside : (s.aside x p).wipeCounts = s.wipeCounts := rfl
@[simp] theorem State.strictAbove_aside (c : ConfigRecord) : (s.aside x p).strictAbove c = s.strictAbove c := rfl
@[simp] theorem State.overlaps_aside (g : Geometry) : (s.aside x p).overlaps g = s.overlaps g := rfl
@[simp] theorem State.nextEpoch_aside (w : WindowNo) (e : Epoch) : (s.aside x p).nextEpoch w e = s.nextEpoch w e := rfl
@[simp] theorem State.closingGroups_aside (ws : List WindowNo) : (s.aside x p).closingGroups ws = s.closingGroups ws := rfl
@[simp] theorem State.anyStrict_aside (ws : List WindowNo) : (s.aside x p).anyStrict ws = s.anyStrict ws := rfl
@[simp] theorem State.closeRecord_aside (b : Bool) (ws : List WindowNo) : (s.aside x p).closeRecord b ws = s.closeRecord b ws := rfl
@[simp] theorem State.lineInProgress_aside : (s.aside x p).lineInProgress = s.lineInProgress := rfl

@[simp] theorem State.ite_aside (c : Prop) [Decidable c] (t : State) :
    (if c then s.aside x p else t.aside x p) = (if c then s else t).aside x p := by split <;> rfl
@[simp] theorem State.setWin_aside (w : WindowNo) (e : WindowEntry) :
    (s.aside x p).setWin w e = (s.setWin w e).aside x p := rfl
@[simp] theorem State.mapWindows_aside (f : WindowNo → WindowEntry → WindowEntry) :
    (s.aside x p).mapWindows f = (s.mapWindows f).aside x p := rfl
@[simp] theorem State.markGroup_aside (w : WindowNo) (f : GroupFlags → GroupFlags) :
    (s.aside x p).markGroup w f = (s.markGroup w f).aside x p := rfl
@[simp] theorem State.arbitrate_aside :
    (s.aside x p).arbitrate = (s.arbitrate).aside x p := rfl
@[simp] theorem State.requestHost_aside (t : PortTxn) :
    (s.aside x p).requestHost t = (s.requestHost t).aside x p := rfl
/-! ### Operations -/

@[simp] theorem State.setBeat_aside (b : BeatStatus) :
    (s.aside x p).setBeat b = (s.setBeat b).aside x p := by
  cases h : s.hpi.txn <;> simp [State.setBeat, h]
@[simp] theorem State.answerBeat_aside (err : Bool) (data : Option Word) :
    (s.aside x p).answerBeat err data = (s.answerBeat err data).aside x p := by
  cases h : s.hpi.txn <;> simp [State.answerBeat, h]
@[simp] theorem State.passWrite_aside (a : Nat) (wd : Word) (be : BitVec 4) :
    (s.aside x p).passWrite a wd be = (s.passWrite a wd be).aside x p := by
  simp [State.passWrite]
@[simp] theorem State.stage_aside (w : WindowNo) (a : Nat) (wd : Word) (be : BitVec 4) :
    (s.aside x p).stage w a wd be = (s.stage w a wd be).map fun t => t.aside x p := by
  simp only [State.stage, State.win_aside, State.aside_slots, State.freeSlotCount_aside]
  cases s.win w with
  | capturing d e n g =>
    dsimp only
    cases findSlot s.slots w e (lineOf a) with
    | some y => rfl
    | none =>
      by_cases h : 0 < s.freeSlotCount ∧ n < d.quota
      · simp only [h, and_self, if_true]; rfl
      · simp only [h, if_false]; rfl
  | _ => rfl
@[simp] theorem State.freeSlots_aside (q : Slot → Bool) :
    (s.aside x p).freeSlots q = (s.freeSlots q).aside x p := rfl
@[simp] theorem State.hold_aside (w : WindowNo) (a : Nat) (wd : Word) (be : BitVec 4) (r : HoldReason) :
    (s.aside x p).hold w a wd be r = (s.hold w a wd be r).aside x p := by
  simp [State.hold]
@[simp] theorem State.issuePass_aside (b : PassBeat) :
    (s.aside x p).issuePass b = (s.issuePass b).aside x p := by
  simp [State.issuePass]
@[simp] theorem State.tryIssue_aside :
    (s.aside x p).tryIssue = (s.tryIssue).aside x p := by
  simp only [State.tryIssue, State.aside_hpi, State.aside_mpa, State.issuePass_aside]
  split <;> (try split) <;> (try split) <;> rfl
@[simp] theorem State.offer_aside (d : WindowDef) (w : WindowNo) (a : Nat) (wd : Word) (be : BitVec 4) :
    (s.aside x p).offer d w a wd be = (s.offer d w a wd be).aside x p := by
  simp only [State.offer, State.stage_aside]
  split
  · simp
  · cases s.stage w a wd be with
    | some t => simp
    | none => simp only [Option.map]; cases d.policy <;> simp 
@[simp] theorem State.routeWrite_aside (a : Nat) (wd : Word) (be : BitVec 4) :
    (s.aside x p).routeWrite a wd be = (s.routeWrite a wd be).aside x p := by
  simp only [State.routeWrite, State.windowAt_aside, State.win_aside]
  split
  · simp
  · cases s.windowAt a with
    | none => simp
    | some w => dsimp only; cases s.win w <;> simp
@[simp] theorem State.readStaged_aside (a : Nat) (l : Lanes) :
    (s.aside x p).readStaged a l = (s.readStaged a l).aside x p := by
  simp only [State.readStaged]; simp
@[simp] theorem State.readBeyond_aside :
    (s.aside x p).readBeyond = (s.readBeyond).aside x p := by
  simp [State.readBeyond]
@[simp] theorem State.routeRead_aside (a : Nat) :
    (s.aside x p).routeRead a = (s.routeRead a).aside x p := by
  simp only [State.routeRead, State.windowAt_aside, State.win_aside]
  split
  · simp
  · cases s.windowAt a with
    | none => simp
    | some w => dsimp only; cases s.win w <;> simp
@[simp] theorem State.retryHeld_aside :
    (s.aside x p).retryHeld = (s.retryHeld).aside x p := by
  simp only [State.retryHeld, State.aside_hpi, State.win_aside, State.stage_aside]
  cases s.hpi.held with
  | none => rfl
  | some h =>
    dsimp only
    cases h.reason with
    | retire => rfl
    | stall =>
      dsimp only
      cases s.win h.window with
      | capturing d e n g => dsimp only; cases s.stage h.window h.addr h.wd h.be <;> simp
      | _ => simp
@[simp] theorem State.releaseHeld_aside :
    (s.aside x p).releaseHeld = (s.releaseHeld).aside x p := by
  simp only [State.releaseHeld, State.aside_hpi, State.win_aside]
  cases s.hpi.held with
  | none => rfl
  | some h => dsimp only; simp 
@[simp] theorem State.afterFreeing_aside (n : Nat) :
    (s.aside x p).afterFreeing n = (s.afterFreeing n).aside x p := by
  simp only [State.afterFreeing]; simp
@[simp] theorem State.expireStall_aside :
    (s.aside x p).expireStall = (s.expireStall).aside x p := by
  simp only [State.expireStall, State.aside_hpi, State.win_aside]
  cases s.hpi.held with
  | none => rfl
  | some h => dsimp only; simp 
@[simp] theorem State.answerFromMemory_aside (err : Bool) (rd : Word) :
    (s.aside x p).answerFromMemory err rd = (s.answerFromMemory err rd).aside x p := by
  simp only [State.answerFromMemory, State.aside_hpi]
  cases s.hpi.txn with
  | none => rfl
  | some t => dsimp only; cases t.beat <;> simp
@[simp] theorem State.changeHead_aside (f : BatchRecord → BatchRecord) :
    (s.aside x p).changeHead f = (s.changeHead f).aside x p := by
  cases h : s.queue <;> simp [State.changeHead, h]
@[simp] theorem State.flagHead_aside (f : BatchFlags → BatchFlags) :
    (s.aside x p).flagHead f = (s.flagHead f).aside x p := by
  simp [State.flagHead]
@[simp] theorem State.beginSlot_aside (m : Member) (y : Slot) :
    (s.aside x p).beginSlot m y = (s.beginSlot m y).aside x p := by
  simp [State.beginSlot]; rfl
@[simp] theorem State.beginLine_aside :
    (s.aside x p).beginLine = (s.beginLine).aside x p := by
  simp only [State.beginLine, State.drainingHead_aside, State.slotAt_aside]
  cases s.drainingHead with
  | none => rfl
  | some k =>
    dsimp only
    cases k.2.resume with
    | none => rfl
    | some q => dsimp only; cases s.slotAt q <;> simp
@[simp] theorem State.endLine_aside (l : LineInProgress) :
    (s.aside x p).endLine l = (s.endLine l).aside x p := by
  simp [State.endLine]
@[simp] theorem State.queueEmptied_aside :
    (s.aside x p).queueEmptied = (s.queueEmptied).aside x p := by
  simp only [State.queueEmptied, State.aside_queue, State.aside_drain, State.setPhase_aside]; exact State.ite_aside _ x p _ _
@[simp] theorem State.retireMembers_aside (ms : List Member) (q : Sequence) :
    (s.aside x p).retireMembers ms q = (s.retireMembers ms q).aside x p := by
  simp [State.retireMembers]
@[simp] theorem State.completeBatch_aside :
    (s.aside x p).completeBatch = (s.completeBatch).aside x p := by
  simp only [State.completeBatch, State.drainingHead_aside]
  cases s.drainingHead with
  | none => rfl
  | some k => simp
@[simp] theorem State.waitForLog_aside :
    (s.aside x p).waitForLog = (s.waitForLog).aside x p := by
  simp only [State.waitForLog, State.aside_drain]; cases s.drain.activity <;> simp
@[simp] theorem State.reserveHead_aside (r : BatchRecord) :
    (s.aside x p).reserveHead r = (s.reserveHead r).aside x p := by
  simp [State.reserveHead]
@[simp] theorem State.testStart_aside (n : Nat) :
    State.testStart n (s.aside x p) = (State.testStart n s).aside x p := by
  induction n generalizing s with
  | zero => rfl
  | succ n ih =>
    simp only [State.testStart, State.aside_drain, State.aside_queue, State.startable_aside, State.aside_log, State.aside_slots]
    cases s.drain.activity with
    | writing l => rfl
    | held => rfl
    | _ =>
      dsimp only
      cases s.queue with
      | nil => simp
      | cons r rest => simp [ih]
@[simp] theorem State.startBatches_aside :
    (s.aside x p).startBatches = (s.startBatches).aside x p := by
  simp [State.startBatches]
@[simp] theorem State.afterLine_aside (w : Bool) :
    (s.aside x p).afterLine w = (s.afterLine w).aside x p := by
  simp only [State.afterLine, State.drainingHead_aside, State.slotAt_aside, State.aside_drain]
  cases s.drainingHead with
  | none => rfl
  | some k =>
    dsimp only
    cases k.2.resume with
    | none => cases w <;> simp
    | some q =>
      dsimp only
      cases s.drain.phase with
      | quiet =>
        dsimp only
        cases s.slotAt q with
        | none => rfl
        | some y => dsimp only; simp 
      | _ => simp
@[simp] theorem State.proceed_aside :
    (s.aside x p).proceed = (s.proceed).aside x p := by
  simp only [State.proceed, State.aside_drain]; cases s.drain.activity <;> simp
@[simp] theorem State.starvationDue_aside : (s.aside x p).starvationDue = s.starvationDue := rfl
@[simp] theorem State.expireStarvation_aside :
    (s.aside x p).expireStarvation = (s.expireStarvation).aside x p := by
  simp only [State.expireStarvation, State.aside_config]; simp
@[simp] theorem State.stopDraining_aside :
    (s.aside x p).stopDraining = (s.stopDraining).aside x p := by
  simp only [State.stopDraining, State.drainingHead_aside]
  cases s.drainingHead <;> simp
@[simp] theorem State.wipeBlocks_aside :
    (s.aside x p).wipeBlocks = (s.wipeBlocks).aside x p := by
  simp only [State.wipeBlocks, State.stopDraining_aside, State.setQueue_aside, State.setSlots_aside, State.setWindows_aside,
    State.aside_hpi]
  cases (((s.stopDraining.setQueue []).setSlots []).setWindows _).hpi.held
  · simp; rfl
  · simp
@[simp] theorem State.endForced_aside :
    (s.aside x p).endForced = (s.endForced).aside x p := by
  simp only [State.endForced, State.aside_drain, State.linesLeft_aside]
  cases s.drain.activity <;> simp 
@[simp] theorem State.applyForce_aside :
    (s.aside x p).applyForce = (s.applyForce).aside x p := by
  simp only [State.applyForce, State.aside_config, State.aside_drain, State.endForced_aside]
  exact State.ite_aside _ x p _ _
@[simp] theorem State.applyStarvationLimit_aside (old : BitVec 16) :
    (s.aside x p).applyStarvationLimit old = (s.applyStarvationLimit old).aside x p := by
  simp only [State.applyStarvationLimit, State.aside_config, State.timerRuns_aside]; simp
@[simp] theorem State.applyStallLimit_aside (old : BitVec 16) :
    (s.aside x p).applyStallLimit old = (s.applyStallLimit old).aside x p := by
  simp only [State.applyStallLimit, State.aside_hpi, State.aside_config]
  cases s.hpi.held with
  | none => rfl
  | some h => dsimp only; simp
@[simp] theorem State.applyConfig_aside (c : ConfigRecord) :
    (s.aside x p).applyConfig c = (s.applyConfig c).aside x p := by
  simp [State.applyConfig]
@[simp] theorem State.abortGroup_aside (w : WindowNo) :
    (s.aside x p).abortGroup w = (s.abortGroup w).aside x p := by
  simp only [State.abortGroup, State.freeSlots_aside, State.win_aside]
  cases (s.freeSlots (Slot.openOf w)).win w <;> simp
@[simp] theorem State.retryAfter_aside (n : Nat) :
    (s.aside x p).retryAfter n = (s.retryAfter n).aside x p := by
  simp only [State.retryAfter]; simp
@[simp] theorem State.closeBatch_aside (b : Bool) (ws : List WindowNo) :
    (s.aside x p).closeBatch b ws = (s.closeBatch b ws).aside x p := by
  simp [State.closeBatch]; rfl
@[simp] theorem State.queueFilled_aside :
    (s.aside x p).queueFilled = (s.queueFilled).aside x p := by
  simp [State.queueFilled]
@[simp] theorem State.cancelRetire_aside (ms : List Member) (q : Sequence) :
    (s.aside x p).cancelRetire ms q = (s.cancelRetire ms q).aside x p := by
  simp [State.cancelRetire]
@[simp] theorem State.removeBatch_aside (r : BatchRecord) :
    (s.aside x p).removeBatch r = (s.removeBatch r).aside x p := by
  simp [State.removeBatch]
@[simp] theorem State.cancelBatch_aside (r : BatchRecord) :
    (s.aside x p).cancelBatch r = (s.cancelBatch r).aside x p := by
  simp only [State.cancelBatch, State.aside_queue, State.freedCount_aside]; simp
@[simp] theorem State.takeRecords_aside (n : Nat) :
    (s.aside x p).takeRecords n = (s.takeRecords n).aside x p := by
  simp only [State.takeRecords, State.aside_drain, State.aside_log]
  cases s.drain.activity <;> simp 
@[simp] theorem State.quietStart_aside :
    (s.aside x p).quietStart = (s.quietStart).aside x p := by
  simp [State.quietStart]
@[simp] theorem State.quietEndActivity_aside :
    (s.aside x p).quietEndActivity = (s.quietEndActivity).aside x p := by
  simp only [State.quietEndActivity, State.aside_drain, State.linesLeft_aside]; cases s.drain.activity <;> simp
@[simp] theorem State.quietEnd_aside :
    (s.aside x p).quietEnd = (s.quietEnd).aside x p := by
  simp only [State.quietEnd, State.aside_drain]; simp
@[simp] theorem State.noteDrainError_aside (err : Bool) :
    (s.aside x p).noteDrainError err = (s.noteDrainError err).aside x p := by
  simp only [State.noteDrainError]; simp
@[simp] theorem State.tickStall_aside :
    (s.aside x p).tickStall = (s.tickStall).aside x p := by
  simp only [State.tickStall, State.aside_hpi, State.aside_config]
  cases s.hpi.held with
  | none => rfl
  | some h => dsimp only; simp
@[simp] theorem State.countStarvation_aside :
    (s.aside x p).countStarvation = (s.countStarvation).aside x p := by
  by_cases h : s.starvationDue = true <;> simp [State.countStarvation, h]
@[simp] theorem State.tickStarvation_aside :
    (s.aside x p).tickStarvation = (s.tickStarvation).aside x p := by
  by_cases h : s.timerRuns = true <;> by_cases g : s.countStarvation.starvationDue = true <;> simp [State.tickStarvation, h, g]
@[simp] theorem State.tick_aside :
    (s.aside x p).tick = (s.tick).aside x p := by
  simp only [State.tick, State.aside_resetn]; simp
@[simp] theorem State.takeRequestFromHost_aside (r : HostRequest) :
    (s.aside x p).takeRequestFromHost r = (s.takeRequestFromHost r).aside x p := by
  simp only [State.takeRequestFromHost, State.aside_hpi]; cases s.hpi.txn <;> simp
@[simp] theorem State.clearAnswer_aside :
    (s.aside x p).clearAnswer = (s.clearAnswer).aside x p := by
  simp [State.clearAnswer]
@[simp] theorem State.takeWriteBeat_aside (wd : Word) (be : BitVec 4) :
    (s.aside x p).takeWriteBeat wd be = (s.takeWriteBeat wd be).aside x p := by
  simp only [State.takeWriteBeat, State.aside_hpi]; cases s.hpi.nextBeat true <;> simp
@[simp] theorem State.takeReadBeat_aside :
    (s.aside x p).takeReadBeat = (s.takeReadBeat).aside x p := by
  simp only [State.takeReadBeat, State.aside_hpi]; cases s.hpi.nextBeat false <;> simp

end Sys2Proof.Machine
end

