-- ==== Sys2Proof/Laws/Link.lean ====
section
/-! SUPPORT. What the setup link does with a complete frame: the places of the response queue, the command path at rest, and for each
request kind the state it leaves with its response in its place. -/

namespace Sys2Proof.Machine

/-! ## Places -/

@[simp] theorem firstAwaiting_append_awaiting (ps : List Place) (q : Request) (h : firstAwaiting ps = none) :
    firstAwaiting (ps ++ [.awaiting q]) = some q := by
  induction ps with
  | nil => rfl
  | cons a ps ih => cases a <;> simp_all [firstAwaiting]

@[simp] theorem firstAwaiting_append_filled (ps : List Place) (r : Response) (h : firstAwaiting ps = none) :
    firstAwaiting (ps ++ [.filled r]) = none := by
  induction ps with
  | nil => rfl
  | cons a ps ih => cases a <;> simp_all [firstAwaiting]

theorem firstAwaiting_append (ps qs : List Place) (q : Request) (h : firstAwaiting ps = some q) :
    firstAwaiting (ps ++ qs) = some q := by
  induction ps with
  | nil => simp [firstAwaiting] at h
  | cons a ps ih => cases a <;> simp_all [firstAwaiting]

/-- The request at the tail, with no other waiting, is the one whose place is filled. -/
@[simp] theorem fillFirst_append (r : Response) (ps : List Place) (q : Request) (h : firstAwaiting ps = none) :
    fillFirst r (ps ++ [.awaiting q]) = ps ++ [.filled r] := by
  induction ps with
  | nil => rfl
  | cons a ps ih => cases a <;> simp_all [firstAwaiting, fillFirst]

/-- With no request waiting, RESYNC empties every place ahead of the one at the tail. -/
@[simp] theorem dropFilled_append (ps : List Place) (q : Request) (h : firstAwaiting ps = none) :
    dropFilled (ps ++ [.awaiting q]) = [.awaiting q] := by
  induction ps with
  | nil => rfl
  | cons a ps ih => cases a <;> simp_all [firstAwaiting, dropFilled]

@[simp] theorem fillFirst_length (r : Response) (ps : List Place) : (fillFirst r ps).length = ps.length := by
  induction ps with
  | nil => rfl
  | cons a ps ih => cases a <;> simp_all [fillFirst]

theorem dropFilled_length_le (ps : List Place) : (dropFilled ps).length ≤ ps.length := by
  induction ps with
  | nil => simp [dropFilled]
  | cons a ps ih => cases a <;> simp [dropFilled]; omega

/-! ## The command path -/

/-- With no request waiting the command path takes none. -/
theorem State.runCommands_idle (n : Nat) (s : State) (h : firstAwaiting s.slc.responses = none) : State.runCommands n s = s := by
  cases n with
  | zero => rfl
  | succ n => simp [State.runCommands, h]

/-- While a WIPE waits for a line to end the command path takes no request. -/
theorem State.runCommands_wipe (n : Nat) (s : State) (h : s.slc.wipeTaken = true) : State.runCommands n s = s := by
  cases n with
  | zero => rfl
  | succ n => simp [State.runCommands, h]

/-- R143: with all eight places taken the request is discarded with LINK_OVERRUN. -/
theorem State.accept_full (s : State) (q : Request) (h : 8 ≤ s.slc.responses.length) : s.accept q = s.setEvent .linkOverrun := by
  simp [State.accept, Config.responsePlaces, h]

/-- R144: behind a WIPE that waits, a request claims its place and waits. -/
theorem State.accept_behind (s : State) (q : Request) (h : s.slc.responses.length < 8) (hw : s.slc.wipeTaken = true) :
    s.accept q = s.setResponses (s.slc.responses ++ [.awaiting q]) := by
  have h' : ¬ Config.responsePlaces ≤ s.slc.responses.length := by simp [Config.responsePlaces]; omega
  simp only [State.accept, h', if_false, State.commandPath]
  exact State.runCommands_wipe _ _ hw

/-- The first AWAITING request is the one at the tail, and its place is filled. -/
theorem State.fill_tail (s t : State) (ch : Channel) (tag : Tag) (reply : Reply) (q : Request)
    (hps : t.slc.responses = s.slc.responses ++ [.awaiting q]) (h : firstAwaiting s.slc.responses = none) :
    t.fill ch tag reply = t.setResponses (s.slc.responses ++ [.filled { ch := ch, tag := tag, reply := reply }]) := by
  simp only [State.fill, hps, fillFirst_append _ _ _ h]

/-- A command path at rest takes a complete frame at once. -/
theorem State.accept_ready (s : State) (q : Request) (h : s.LinkReady) :
    s.accept q = State.runCommands s.slc.responses.length ((s.setResponses (s.slc.responses ++ [.awaiting q])).takeRequest q) := by
  obtain ⟨-, hw, hf, hl⟩ := h
  have h' : ¬ Config.responsePlaces ≤ s.slc.responses.length := by simp [Config.responsePlaces]; omega
  simp only [State.accept, h', if_false, State.commandPath, State.setResponses_slc, List.length_append, List.length_singleton,
    State.runCommands, hw, firstAwaiting_append_awaiting _ q hf]
  rfl

/-! ## Requests that neither read nor change the places -/

/-- The request's effect and reply do not depend on the places, and its effect leaves the places and a waiting WIPE alone. -/
def LinkBlind (f : State → State × Reply) : Prop :=
  (∀ s ps, f (s.setResponses ps) = ((f s).1.setResponses ps, (f s).2)) ∧
    ∀ s, (f s).1.slc.responses = s.slc.responses ∧ (f s).1.slc.wipeTaken = s.slc.wipeTaken

/-- A request that commutes with `State.aside` does not look at the places. -/
theorem LinkBlind.of_aside {f : State → State × Reply} (h : ∀ s x p, f (s.aside x p) = ((f s).1.aside x p, (f s).2)) :
    LinkBlind f := by
  have hs : ∀ s, (f s).1.slc = s.slc ∧ (f s).1.pending = s.pending := fun s => by
    have h' := congrArg Prod.fst (h s s.slc s.pending)
    have h2 : (f s).1 = (f s).1.aside s.slc s.pending := h'
    constructor
    · rw [h2]; rfl
    · rw [h2]; rfl
  refine ⟨fun s ps => ?_, fun s => by rw [(hs s).1]; exact ⟨rfl, rfl⟩⟩
  have h1 : s.setResponses ps = s.aside { s.slc with responses := ps } s.pending := rfl
  rw [h1, h]
  congr 1
  show _ = (f s).1.setSlc _
  rw [(hs s).1, ← (hs s).2]
  rfl

/-- A blind request, taken by a command path at rest, leaves its own effect and its response at the tail. -/
theorem State.accept_blind (s : State) (q : Request) (ch : Channel) (tag : Tag) (f : State → State × Reply) (hb : LinkBlind f)
    (ht : ∀ t : State, t.takeRequest q = fillReply ch tag (f t)) (h : s.LinkReady) :
    s.accept q = (f s).1.answered ch tag (f s).2 := by
  rw [State.accept_ready s q h, ht, hb.1]
  have hf := h.2.2.1
  have hr := (hb.2 s).1
  simp only [fillReply]
  rw [State.fill_tail s _ ch tag _ q (by simp) hf]
  rw [State.runCommands_idle]
  · simp only [State.answered, hr]; rfl
  · simpa using firstAwaiting_append_filled _ _ hf

/-! ## The requests, one by one -/

theorem shortForm_blind (body : FrameBody) (k : State → Byte → State × Reply) (hk : ∀ a, LinkBlind fun s => k s a) :
    LinkBlind fun s => shortForm body s (k s) := by
  cases body with
  | short a => exact hk a
  | long ws => exact ⟨fun _ _ => rfl, fun _ => ⟨rfl, rfl⟩⟩

section
open LinkBlind

theorem requestIdent_blind (body : FrameBody) : LinkBlind (requestIdent body) :=
  of_aside fun s x p => by cases body <;> rfl

theorem requestStatus_blind (body : FrameBody) : LinkBlind (requestStatus body) := by
  constructor
  · intro s ps; cases body <;> rfl
  · intro s; cases body <;> exact ⟨rfl, rfl⟩

theorem requestConfigGet_blind (body : FrameBody) : LinkBlind (requestConfigGet body) :=
  of_aside fun s x p => by cases body <;> rfl

theorem requestConfigSet_blind (body : FrameBody) : LinkBlind (requestConfigSet body) :=
  of_aside fun s x p => by
    unfold requestConfigSet longForm3
    split
    · rename_i w0 w1 w2
      dsimp only
      cases configFields w0 w1 w2 with
      | none => rfl
      | some c => simp only [State.strictAbove_aside, State.applyConfig_aside]; split <;> rfl
    · rfl

theorem requestSetLimit_blind (ch : Channel) (body : FrameBody) : LinkBlind (requestSetLimit ch body) := by
  unfold requestSetLimit
  refine shortForm_blind body (fun s a => if a.toNat < 8 ∨ 64 < a.toNat then (s, .nak .range) else
    (s.setSlc { s.slc with limits := s.slc.limits.set ch.val a.toNat ch.isLt }, .ack)) fun a => ⟨fun s ps => ?_, fun s => ?_⟩
  · dsimp only; split <;> rfl
  · dsimp only; split <;> exact ⟨rfl, rfl⟩

theorem requestWinDefine_blind (ch : Channel) (body : FrameBody) : LinkBlind (requestWinDefine ch body) :=
  of_aside fun s x p => by
    unfold requestWinDefine longForm5
    split
    · rename_i w0 w1 w2 w3 w4
      dsimp only
      cases winDefineInRange ch (winDefineFields w0 w1 w2 w3 w4) with
      | none => rfl
      | some k =>
        simp only [State.win_aside, State.overlaps_aside, State.setWin_aside]
        by_cases h1 : (!k.2.geometry.aligned) = true
        · simp only [h1, if_true]
        · by_cases h2 : (!(s.win k.1).isFree) = true
          · simp only [h1, h2, if_true]; rfl
          · by_cases h3 : s.overlaps k.2.geometry = true
            · simp only [h1, h2, h3, if_true]; rfl
            · simp only [h1, h2, h3]; rfl
    · rfl

/-- A request about one window commutes with `State.aside` when its part for each window does. -/
theorem windowForm_aside (body : FrameBody) (k : State → WindowNo → State × Reply)
    (hk : ∀ w s x p, k (s.aside x p) w = ((k s w).1.aside x p, (k s w).2)) (s : State) (x : Slc) (p : List Instr) :
    windowForm body (s.aside x p) (k (s.aside x p)) = ((windowForm body s (k s)).1.aside x p, (windowForm body s (k s)).2) := by
  unfold windowForm shortForm
  cases body with
  | long ws => rfl
  | short a =>
    dsimp only
    cases windowArgument a with
    | none => rfl
    | some w => exact hk w s x p

theorem requestWinStart_blind (ch : Channel) (body : FrameBody) : LinkBlind (requestWinStart ch body) :=
  of_aside <| windowForm_aside body (fun s w => if (s.win w).ownedByOther ch then (s, .nak .owner) else
    match s.win w with
    | .idle d e => (s.setWin w (.capturing d e 0 newGroup), .ack)
    | _ => (s, .nak .state)) fun w s x p => by
      simp only [State.win_aside]
      by_cases h : (s.win w).ownedByOther ch = true
      · simp only [h, if_true]
      · simp only [h]
        cases s.win w <;> rfl

theorem requestWinRelease_blind (ch : Channel) (body : FrameBody) : LinkBlind (requestWinRelease ch body) :=
  of_aside <| windowForm_aside body (fun s w => if (s.win w).ownedByOther ch then (s, .nak .owner) else
    match s.win w with
    | .idle _ _ => (s.setWin w .free, .ack)
    | _ => (s, .nak .state)) fun w s x p => by
      simp only [State.win_aside]
      by_cases h : (s.win w).ownedByOther ch = true
      · simp only [h, if_true]
      · simp only [h]
        cases s.win w <;> rfl

theorem requestWinQuery_blind (body : FrameBody) : LinkBlind (requestWinQuery body) :=
  of_aside <| windowForm_aside body (fun s w => (s, .data ((s.win w).toWords w))) fun _ _ _ _ => rfl

theorem requestWinAbort_blind (ch : Channel) (body : FrameBody) : LinkBlind (requestWinAbort ch body) :=
  of_aside <| windowForm_aside body (fun s w => if (s.win w).ownedByOther ch then (s, .nak .owner)
    else if !(s.win w).isCapturing then (s, .nak .state)
    else (((s.abortGroup w).retryAfter (s.freedCount (Slot.openOf w))).arbitrate, .ack)) fun w s x p => by
      simp only [State.win_aside, State.abortGroup_aside, State.freedCount_aside, State.retryAfter_aside, State.arbitrate_aside]
      split_ifs <;> simp_all

theorem requestClose_blind (ch : Channel) (body : FrameBody) : LinkBlind (requestClose ch body) :=
  of_aside fun s x p => by
    unfold requestClose longForm1
    split
    · rename_i w0
      dsimp only
      cases closeFields w0 with
      | none => rfl
      | some k =>
        simp only [State.win_aside, State.aside_queue, State.anyStrict_aside, State.aside_config, State.closingGroups_aside,
          State.closeBatch_aside, State.queueFilled_aside, State.aside_nextSeq]
        split_ifs <;> simp_all <;>
        · rename_i h _ _
          have := of_decide_eq_true h.2
          omega
    · rfl

theorem requestCancel_blind (body : FrameBody) : LinkBlind (requestCancel body) :=
  of_aside fun s x p => by
    unfold requestCancel longForm1
    split
    · rename_i w0
      dsimp only
      cases cancelField w0 with
      | none => rfl
      | some q =>
        simp only [State.aside_log, State.aside_queue]
        by_cases h : s.log.freeEntries = 0
        · simp only [h, if_true]
        · simp only [h, if_false]
          cases s.queue.find? (fun r => decide (r.seq = q)) with
          | none => rfl
          | some r => simp only [State.cancelBatch_aside]; split <;> rfl
    · rfl

theorem requestLogRead_blind (ch : Channel) (body : FrameBody) : LinkBlind (requestLogRead ch body) := by
  have hr : ∀ (s : State) (n : Nat) (ps : List Place), (s.setResponses ps).takeRecords n = (s.takeRecords n).setResponses ps := by
    intro s n ps
    have h := State.takeRecords_aside s { s.slc with responses := ps } s.pending n
    have hf := State.aside_frame s (f := fun t => t.takeRecords n) fun x p => State.takeRecords_aside s x p n
    rw [show (s.setResponses ps) = s.aside { s.slc with responses := ps } s.pending from rfl, h]
    show _ = (s.takeRecords n).setSlc _
    rw [hf.1, ← hf.2]
    rfl
  unfold requestLogRead
  refine shortForm_blind body (fun s a => if a.toNat = 0 ∨ 12 < a.toNat then (s, .nak .range) else
    (s.takeRecords (s.logReadCount ch a.toNat), .data (BitVec.ofNat 32 (s.logReadCount ch a.toNat) ::
      (s.log.records.take (s.logReadCount ch a.toNat)).flatMap CompletionRecord.toWords))) fun a => ⟨fun s ps => ?_, fun s => ?_⟩
  · dsimp only
    rw [hr]
    split <;> rfl
  · dsimp only
    split
    · exact ⟨rfl, rfl⟩
    · have hf := State.aside_frame s (f := fun t => t.takeRecords (s.logReadCount ch a.toNat)) fun x p =>
        State.takeRecords_aside s x p _
      rw [show (s.takeRecords (s.logReadCount ch a.toNat)).slc = s.slc from hf.1]
      exact ⟨rfl, rfl⟩

theorem requestSigReset_blind (body : FrameBody) : LinkBlind (requestSigReset body) :=
  of_aside fun s x p => by cases body <;> rfl

theorem requestEventAck_blind (body : FrameBody) : LinkBlind (requestEventAck body) :=
  of_aside fun s x p => by
    unfold requestEventAck longForm1
    split
    · rename_i w0; dsimp only; cases eventAckField w0 <;> rfl
    · rfl

end

/-! ## Each kind at a command path at rest -/

/-- The request function of a kind other than WIPE and RESYNC, which act on the places themselves. -/
def requestOf (k : Kind) (ch : Channel) (body : FrameBody) : Option (State → State × Reply) :=
  match k with
  | .wipe | .resync => none
  | .ident => some (requestIdent body)
  | .status => some (requestStatus body)
  | .configGet => some (requestConfigGet body)
  | .configSet => some (requestConfigSet body)
  | .setLimit => some (requestSetLimit ch body)
  | .winDefine => some (requestWinDefine ch body)
  | .winStart => some (requestWinStart ch body)
  | .winRelease => some (requestWinRelease ch body)
  | .winQuery => some (requestWinQuery body)
  | .winAbort => some (requestWinAbort ch body)
  | .close => some (requestClose ch body)
  | .cancel => some (requestCancel body)
  | .logRead => some (requestLogRead ch body)
  | .sigReset => some (requestSigReset body)
  | .eventAck => some (requestEventAck body)

@[simp] theorem kindOfCode_code (k : Kind) : kindOfCode k.code = some k := by cases k <;> decide

/-- R143: what a request command hands to the link. -/
theorem exec_commandOf (k : Kind) (ch : Channel) (tag : Tag) (body : FrameBody) (s : State) (h : s.resetn = true) :
    exec (commandOf k ch tag body) s = .next (s.accept (.frame { kind := k.code, ch := ch, tag := tag, body := body })) := by
  cases k <;> exact congrArg Host.Outcome.next (if_pos h)

theorem requestOf_blind (k : Kind) (ch : Channel) (body : FrameBody) (f : State → State × Reply) (hf : requestOf k ch body = some f) :
    LinkBlind f := by
  cases k <;> simp only [requestOf, Option.some.injEq, reduceCtorEq] at hf <;> subst hf
  · exact requestIdent_blind body
  · exact requestStatus_blind body
  · exact requestConfigGet_blind body
  · exact requestConfigSet_blind body
  · exact requestSetLimit_blind ch body
  · exact requestWinDefine_blind ch body
  · exact requestWinStart_blind ch body
  · exact requestWinRelease_blind ch body
  · exact requestWinQuery_blind body
  · exact requestWinAbort_blind ch body
  · exact requestClose_blind ch body
  · exact requestCancel_blind body
  · exact requestLogRead_blind ch body
  · exact requestSigReset_blind body
  · exact requestEventAck_blind body

theorem takeRequest_frame (k : Kind) (ch : Channel) (tag : Tag) (body : FrameBody) (f : State → State × Reply)
    (hf : requestOf k ch body = some f) (t : State) :
    t.takeRequest (.frame { kind := k.code, ch := ch, tag := tag, body := body }) = fillReply ch tag (f t) := by
  simp only [State.takeRequest, kindOfCode_code]
  cases k <;> simp only [requestOf, Option.some.injEq, reduceCtorEq] at hf <;> subst hf <;> rfl

/-- R144: a request of a kind other than WIPE and RESYNC, at a command path at rest, has its effect and is answered at once. -/
theorem exec_request_ready (k : Kind) (ch : Channel) (tag : Tag) (body : FrameBody) (f : State → State × Reply)
    (hf : requestOf k ch body = some f) (s : State) (h : s.LinkReady) :
    exec (commandOf k ch tag body) s = .next ((f s).1.answered ch tag (f s).2) := by
  rw [exec_commandOf k ch tag body s h.1,
    State.accept_blind s _ ch tag f (requestOf_blind k ch body f hf) (takeRequest_frame k ch tag body f hf) h]

/-- R140, R141: a frame the link refused, at a command path at rest, is answered with the reason so named. -/
theorem State.accept_refused (s : State) (ch : Channel) (tag : Tag) (why : Reason) (h : s.LinkReady) :
    s.accept (.refused ch tag why) = s.answered ch tag (.nak why) :=
  State.accept_blind s _ ch tag (fun t => (t, .nak why)) ⟨fun _ _ => rfl, fun _ => ⟨rfl, rfl⟩⟩ (fun _ => rfl) h

/-- R154: a frame of an unknown kind, at a command path at rest, is answered with UNKNOWN. -/
theorem State.accept_unknown (s : State) (f : Frame) (hk : kindOfCode f.kind = none) (h : s.LinkReady) :
    s.accept (.frame f) = s.answered f.ch f.tag (.nak .unknown) :=
  State.accept_blind s _ f.ch f.tag (fun t => (t, .nak .unknown)) ⟨fun _ _ => rfl, fun _ => ⟨rfl, rfl⟩⟩
    (fun t => by simp only [State.takeRequest, hk]; rfl) h

/-! ## Frames that end, and requests that waited -/

@[simp] theorem Assembler.afterFrame_afterFrame (a : Assembler) : a.afterFrame.afterFrame = a.afterFrame := by cases a <;> rfl

@[simp] theorem Assembler.afterFrame_eq_idle (a : Assembler) : a.afterFrame = .idle ↔ a = .idle := by cases a <;> simp [afterFrame]

theorem State.endFrame_linkReady (s : State) (h : s.LinkReady) : s.endFrame.LinkReady := h

/-- An assembler in no frame is left as it is. -/
theorem State.endFrame_eq_self (s : State) (h : s.slc.assembler.afterFrame = s.slc.assembler) : s.endFrame = s := by
  simp only [State.endFrame, h, State.setAssembler, State.setSlc]

/-- R134, R146: the rest of a frame is sent only within a transfer period, of a FILLED head, and not while RESYNC holds the transmitter at
fill. -/
theorem State.sendRest_cases (s : State) :
    s.sendRest = s ∨
      ∃ r rest, s.slc.assembler ≠ .idle ∧ s.slc.responses = .filled r :: rest ∧ s.slc.txFill = false ∧
        s.sendRest = s.popResponse (r.bytes.getLastD 0xFF#8) := by
  unfold State.sendRest
  split
  · exact .inl rfl
  · rename_i h
    split
    · rename_i r rest hr hf
      exact .inr ⟨r, rest, h, hr, hf, rfl⟩
    · exact .inl rfl

/-- A kind found by its code has that code. -/
theorem code_of_kindOfCode {b : Byte} {k : Kind} (h : kindOfCode b = some k) : k.code = b := by
  have := List.find?_some h
  simpa using this

/-- R143: the command of a request is the request handed to its place. -/
theorem exec_requestCommand (q : Request) (s : State) (h : s.resetn = true) (hq : q.standsFor s.slc.assembler = true) :
    exec q.command s = .next (s.accept q) := by
  cases q with
  | frame f =>
    cases hk : kindOfCode f.kind with
    | some k =>
      have := exec_commandOf k f.ch f.tag f.body s h
      simpa only [Request.command, Frame.command, hk, code_of_kindOfCode hk] using this
    | none => simp [Request.command, Frame.command, hk, exec, execUnknownKind, whenReleased, h]
  | refused ch tag r =>
    simp only [Request.standsFor, Bool.and_eq_true, Bool.or_eq_true, decide_eq_true_eq] at hq
    obtain ⟨rfl | rfl, ha⟩ := hq
    · simp [Request.command, exec, execFrameFormRefusal, State.afterFormFault, whenReleased, h, State.endFrame_eq_self s ha]
    · simp [Request.command, exec, execPayloadCheckFailure, whenReleased, h, State.endFrame_eq_self s ha]

end Sys2Proof.Machine
end

