-- ==== Sys2Proof/Laws/Ops.lean ====
section
/-! SUPPORT. What the shared operations do, once each: an answered beat, a beat's standing, the arbiter's grant, the head of the
commit queue, and the starvation timer's expiry. -/

namespace Sys2Proof.Machine

/-! ## The host transaction -/

/-- R103, R104: an answered beat leaves the HPI as `Hpi.afterBeat` says and nothing else changed. -/
theorem State.answerBeat_eq (s : State) (t : HostTransaction) (err : Bool) (data : Option Word) (h : s.hpi.txn = some t) :
    s.answerBeat err data = s.setHpi (s.hpi.afterBeat t { err := err, data := data }) := by
  unfold State.answerBeat Hpi.afterBeat Hpi.takeWaiting HostRequest.begin
  rw [h]
  by_cases hc : t.index < t.req.cnt.toNat
  · simp [hc]
  · simp only [hc, if_false]
    cases hw : s.hpi.waiting <;> simp

theorem State.answerBeat_none (s : State) (err : Bool) (data : Option Word) (h : s.hpi.txn = none) :
    s.answerBeat err data = s := by
  unfold State.answerBeat; rw [h]

theorem State.setBeat_eq (s : State) (t : HostTransaction) (b : BeatStatus) (h : s.hpi.txn = some t) :
    s.setBeat b = s.setHpi { s.hpi with txn := some { t with beat := b } } := by
  unfold State.setBeat; rw [h]

theorem State.setBeat_none (s : State) (b : BeatStatus) (h : s.hpi.txn = none) : s.setBeat b = s := by
  unfold State.setBeat; rw [h]

/-- R104: a beat just taken stands as `Hpi.withBeat` says. -/
theorem State.clearAnswer_setBeat (s : State) (t : HostTransaction) (b : BeatStatus) (h : s.hpi.txn = some t) :
    s.clearAnswer.setBeat b = s.setHpi (s.hpi.withBeat t b) := by
  unfold State.setBeat State.clearAnswer Hpi.withBeat
  simp [h]

/-- R104: a beat taken and answered at once leaves what an answered beat leaves. -/
theorem State.clearAnswer_answerBeat (s : State) (t : HostTransaction) (err : Bool) (data : Option Word) (h : s.hpi.txn = some t) :
    s.clearAnswer.answerBeat err data = s.setHpi (s.hpi.afterBeat t { err := err, data := data }) := by
  rw [State.answerBeat_eq s.clearAnswer t err data (by simpa [State.clearAnswer] using h)]
  unfold State.clearAnswer Hpi.afterBeat
  by_cases hc : t.index < t.req.cnt.toNat <;> simp [hc]

/-- R108: the held beat is that of the transaction in progress. -/
theorem Hpi.held_eq_some (h : Hpi) (b : HeldBeat) : h.held = some b ↔ ∃ t, h.txn = some t ∧ t.beat = .held b := by
  unfold Hpi.held
  constructor
  · intro e
    split at e
    · rename_i t ht
      split at e
      · rename_i b' hb
        cases e
        exact ⟨t, ht, hb⟩
      · cases e
    · cases e
  · rintro ⟨t, ht, hb⟩
    simp [ht, hb]

/-! ## The memory port -/

/-- R115: with no request waiting at a free port the arbiter does nothing. -/
theorem Mpa.arbitrate_settled (m : Mpa) (h : m.port = none → m.hostReq = none ∧ m.drainReq = none) : m.arbitrate = m := by
  unfold Mpa.arbitrate
  cases hp : m.port with
  | some _ => rfl
  | none =>
    obtain ⟨h1, h2⟩ := h hp
    simp [h1, h2]

theorem State.arbitrate_settled (s : State) (h : s.PortSettled) : s.arbitrate = s := by
  unfold State.arbitrate
  rw [Mpa.arbitrate_settled _ h]
  rfl

/-- R115: after the arbiter no request waits at a free port. -/
theorem Mpa.arbitrate_port (m : Mpa) (h : m.arbitrate.port = none) : m.arbitrate.hostReq = none ∧ m.arbitrate.drainReq = none := by
  revert h
  unfold Mpa.arbitrate
  cases hp : m.port <;> cases hh : m.hostReq <;> cases hd : m.drainReq <;> cases hl : m.lastGrant <;> simp [hp, hh, hd]

theorem State.arbitrate_portSettled (s : State) : s.arbitrate.PortSettled := fun h => Mpa.arbitrate_port s.mpa h

@[simp] theorem State.arbitrate_arbitrate (s : State) : s.arbitrate.arbitrate = s.arbitrate :=
  State.arbitrate_settled _ s.arbitrate_portSettled

/-- R115: the host path's request at a settled port. -/
theorem Mpa.requestHost_arbitrate (m : Mpa) (x : PortTxn) (h : m.port = none → m.hostReq = none ∧ m.drainReq = none) :
    { m with hostReq := some x }.arbitrate = m.withHostRequest x := by
  unfold Mpa.arbitrate Mpa.withHostRequest
  cases hp : m.port with
  | some _ => rfl
  | none =>
    obtain ⟨h1, h2⟩ := h hp
    simp [h2]

theorem State.requestHost_arbitrate (s : State) (x : PortTxn) (h : s.PortSettled) :
    (s.requestHost x).arbitrate = s.setMpa (s.mpa.withHostRequest x) := by
  unfold State.requestHost State.arbitrate
  simp only [State.setMpa_mpa]
  rw [Mpa.requestHost_arbitrate _ _ h]
  rfl

/-- R114, R115: the port freed at the end of its transaction goes to the requester next in turn. -/
theorem Mpa.free_arbitrate (m : Mpa) : { m with port := none }.arbitrate = m.nextGrant := by
  unfold Mpa.arbitrate Mpa.nextGrant
  cases hh : m.hostReq <;> cases hd : m.drainReq <;> cases hl : m.lastGrant <;> rfl

/-- R115, R116: a line begun at a settled port. -/
theorem Mpa.withLine_arbitrate (m : Mpa) (line : Nat) (first : Option DrainRun)
    (h : m.port = none → m.hostReq = none ∧ m.drainReq = none) :
    { m with interlock := some line, drainReq := first }.arbitrate = m.withLine line first := by
  unfold Mpa.arbitrate Mpa.withLine
  cases hp : m.port with
  | some _ => rfl
  | none =>
    obtain ⟨h1, h2⟩ := h hp
    cases first with
    | none => simp [h1]
    | some r => simp [h1]

/-! ## The head of the commit queue -/

/-- R59: a change of the head record is a change of the queue's head. -/
theorem State.changeHead_eq (s : State) (f : BatchRecord → BatchRecord) : s.changeHead f = s.setQueue (s.queue.modifyHead f) := by
  unfold State.changeHead
  cases h : s.queue with
  | nil => simp only [List.modifyHead_nil]; rw [← h]; rfl
  | cons r rest => rfl

/-- R47, R48: the DRAINING head. -/
theorem State.drainingHead_eq_some (s : State) (r : BatchRecord) (f : DrainFields) :
    s.drainingHead = some (r, f) ↔ ∃ rest, s.queue = r :: rest ∧ r.state = .draining f := by
  unfold State.drainingHead BatchRecord.drainFields
  cases h : s.queue with
  | nil => simp
  | cons x rest =>
    cases hx : x.state with
    | queued =>
      simp only [hx, Option.map_none, reduceCtorEq, false_iff, not_exists, not_and]
      rintro q e e'
      cases e
      rw [hx] at e'
      cases e'
    | draining g =>
      simp only [hx, Option.map_some, Option.some.injEq, Prod.mk.injEq, List.cons.injEq]
      constructor
      · rintro ⟨rfl, rfl⟩
        exact ⟨rest, ⟨rfl, rfl⟩, hx⟩
      · rintro ⟨q, ⟨rfl, -⟩, e⟩
        rw [hx] at e
        cases e
        exact ⟨rfl, rfl⟩

/-- R81, R82, R87, R92, R116: a line begun at a settled port is `State.lineBegun`. -/
theorem State.beginSlot_arbitrate (s : State) (m : Member) (x : Slot) (h : s.PortSettled) :
    (s.beginSlot m x).arbitrate = s.lineBegun m x := by
  unfold State.beginSlot State.arbitrate State.lineBegun
  rw [State.changeHead_eq]
  simp only [State.setMpa_mpa]
  rw [Mpa.withLine_arbitrate _ _ _ h]
  have hq : ∀ r : BatchRecord,
      ({ r with
          flags := if s.drain.phase = .forced then r.flags.setForced else r.flags
          intervals := if s.drain.begun then r.intervals else saturatingSucc r.intervals } : BatchRecord) =
        { r with
          flags := { r.flags with forced := r.flags.forced || decide (s.drain.phase = .forced) }
          intervals := if s.drain.begun = true ∨ r.intervals = 255#8 then r.intervals else r.intervals + 1 } := by
    intro r
    have h1 : (if s.drain.phase = .forced then r.flags.setForced else r.flags) =
        { r.flags with forced := r.flags.forced || decide (s.drain.phase = .forced) } := by
      by_cases hp : s.drain.phase = .forced <;> simp [hp, BatchFlags.setForced]
    have h2 : (if s.drain.begun = true then r.intervals else saturatingSucc r.intervals) =
        if s.drain.begun = true ∨ r.intervals = 255#8 then r.intervals else r.intervals + 1 := by
      unfold saturatingSucc
      by_cases hb : s.drain.begun = true
      · simp [hb]
      · by_cases hi : r.intervals = 255#8 <;> simp [hb, hi]
    rw [h1, h2]
  have hf : (fun r : BatchRecord =>
      ({ r with
          flags := if s.drain.phase = .forced then r.flags.setForced else r.flags
          intervals := if s.drain.begun then r.intervals else saturatingSucc r.intervals } : BatchRecord)) =
        fun r => { r with
          flags := { r.flags with forced := r.flags.forced || decide (s.drain.phase = .forced) }
          intervals := if s.drain.begun = true ∨ r.intervals = 255#8 then r.intervals else r.intervals + 1 } := funext hq
  rw [hf]
  rfl

/-! ## The starvation timer -/

/-- R97, R99: an expired timer is EXPIRED, its elapsed time at the limit or, where it was above, kept. -/
theorem StarvationTimer.expire_eq (t : StarvationTimer) (limit : Nat) :
    (t.expire limit).expired = true ∧ (t.expire limit).elapsed = max t.elapsed limit := by
  unfold StarvationTimer.expire
  split <;> simp <;> omega

@[simp] theorem StarvationTimer.expire_of_le (t : StarvationTimer) (limit : Nat) (h : limit ≤ t.elapsed) :
    t.expire limit = { t with expired := true } := if_pos h

@[simp] theorem State.starvationDue_iff (s : State) :
    s.starvationDue = true ↔ s.config.starvationLimit.toNat ≤ s.drain.timer.elapsed := by simp [State.starvationDue]

end Sys2Proof.Machine
end

