-- ==== Sys2Proof/Laws/Store.lean ====
section
/-! SUPPORT. The staging store: the order its slots are listed in and that every operation over them keeps it, its lookups, and what
staging a beat and freeing slots do. -/

namespace Sys2Proof.Machine

/-! ## The order of the slots (R25) -/

/-- The listing is in strictly ascending order of window, epoch and line address. -/
abbrev slotsOrdered (slots : List Slot) : Prop := slots.Pairwise fun x y => x.before y = true

/-- The order over the numbers of window, epoch and line. -/
theorem Slot.before_iff (x y : Slot) :
    x.before y = true ↔
      x.window.val < y.window.val ∨ (x.window.val = y.window.val ∧
        (x.epoch.toNat < y.epoch.toNat ∨ (x.epoch.toNat = y.epoch.toNat ∧ x.line < y.line))) := by
  simp [Slot.before, Fin.ext_iff, BitVec.lt_def, BitVec.toNat_inj]

/-- R25: the key over the numbers of window, epoch and line. -/
theorem Slot.hasKey_iff (x : Slot) (w : WindowNo) (e : Epoch) (line : Nat) :
    x.hasKey w e line = true ↔ x.window.val = w.val ∧ x.epoch.toNat = e.toNat ∧ x.line = line := by
  simp [Slot.hasKey, Fin.ext_iff, BitVec.toNat_inj, and_assoc]

theorem Slot.before_trans {x y z : Slot} (h : x.before y = true) (k : y.before z = true) : x.before z = true := by
  rw [Slot.before_iff] at *
  omega

theorem Slot.before_irrefl (x : Slot) : x.before x = false := by
  rw [Bool.eq_false_iff, ne_eq, Slot.before_iff]
  omega

/-- Two slots stand in the order one way or the other unless they have the same key. -/
theorem Slot.before_total (x y : Slot) (h : y.hasKey x.window x.epoch x.line = false) : x.before y = true ∨ y.before x = true := by
  rw [Bool.eq_false_iff, ne_eq, Slot.hasKey_iff] at h
  rw [Slot.before_iff, Slot.before_iff]
  omega

/-- A new slot adds exactly itself. -/
theorem insertSlot_perm (x : Slot) (slots : List Slot) : (insertSlot x slots).Perm (x :: slots) := by
  induction slots with
  | nil => exact .refl _
  | cons y ys ih =>
    unfold insertSlot
    split
    · exact .refl _
    · exact (ih.cons y).trans (.swap x y ys)

theorem mem_insertSlot (x z : Slot) (slots : List Slot) : z ∈ insertSlot x slots ↔ z = x ∨ z ∈ slots := by
  rw [(insertSlot_perm x slots).mem_iff, List.mem_cons]

theorem insertSlot_length (x : Slot) (slots : List Slot) : (insertSlot x slots).length = slots.length + 1 :=
  (insertSlot_perm x slots).length_eq

/-- R25: a new slot whose key no slot has keeps the order. -/
theorem insertSlot_ordered (x : Slot) (slots : List Slot) (h : slotsOrdered slots)
    (hk : ∀ y ∈ slots, y.hasKey x.window x.epoch x.line = false) : slotsOrdered (insertSlot x slots) := by
  induction slots with
  | nil => simp [insertSlot, slotsOrdered]
  | cons y ys ih =>
    unfold insertSlot
    obtain ⟨h1, h2⟩ := List.pairwise_cons.1 h
    split
    · rename_i hb
      refine List.pairwise_cons.2 ⟨fun z hz => ?_, h⟩
      rcases List.mem_cons.1 hz with rfl | hz
      · exact hb
      · exact Slot.before_trans hb (h1 z hz)
    · rename_i hb
      refine List.pairwise_cons.2 ⟨fun z hz => ?_, ih h2 fun z hz => hk z (List.mem_cons_of_mem _ hz)⟩
      rcases (mem_insertSlot x z ys).1 hz with rfl | hz
      · exact (Slot.before_total z y (hk y List.mem_cons_self)).resolve_left hb
      · exact h1 z hz

/-- A change that leaves every key leaves the order. -/
theorem changeSlots_ordered (p : Slot → Bool) (f : Slot → Slot) (slots : List Slot) (h : slotsOrdered slots)
    (hf : ∀ x, (f x).window = x.window ∧ (f x).epoch = x.epoch ∧ (f x).line = x.line) : slotsOrdered (changeSlots p f slots) := by
  unfold changeSlots slotsOrdered
  rw [List.pairwise_map]
  refine h.imp fun {x y} hxy => ?_
  have key : ∀ z, ((if p z = true then f z else z).window = z.window) ∧ ((if p z = true then f z else z).epoch = z.epoch) ∧
      ((if p z = true then f z else z).line = z.line) := by
    intro z
    by_cases hz : p z = true
    · simpa [hz] using hf z
    · simp [hz]
  rw [Slot.before_iff] at *
  rw [(key x).1, (key x).2.1, (key x).2.2, (key y).1, (key y).2.1, (key y).2.2]
  exact hxy

@[simp] theorem changeSlots_length (p : Slot → Bool) (f : Slot → Slot) (slots : List Slot) :
    (changeSlots p f slots).length = slots.length := by
  simp [changeSlots]

theorem filter_ordered (p : Slot → Bool) (slots : List Slot) (h : slotsOrdered slots) : slotsOrdered (slots.filter p) := h.filter p

/-- R25: no two slots of an ordered listing have the same key. -/
theorem slotsOrdered_unique (slots : List Slot) (h : slotsOrdered slots) (x y : Slot) (hx : x ∈ slots) (hy : y ∈ slots)
    (hk : y.hasKey x.window x.epoch x.line = true) : x = y := by
  have irr : ∀ a b : Slot, a.before b = true → b.hasKey a.window a.epoch a.line = true → False := by
    intro a b hb hab
    rw [Slot.hasKey_iff] at hab
    rw [Slot.before_iff] at hb
    omega
  have hk' : x.hasKey y.window y.epoch y.line = true := by
    simp only [Slot.hasKey, Bool.and_eq_true, decide_eq_true_eq] at hk ⊢
    exact ⟨⟨hk.1.1.symm, hk.1.2.symm⟩, hk.2.symm⟩
  induction slots with
  | nil => cases hx
  | cons z zs ih =>
    obtain ⟨h1, h2⟩ := List.pairwise_cons.1 h
    rcases List.mem_cons.1 hx with rfl | hx' <;> rcases List.mem_cons.1 hy with rfl | hy'
    · rfl
    · exact (irr _ _ (h1 y hy') hk).elim
    · exact (irr _ _ (h1 x hx') hk').elim
    · exact ih h2 hx' hy'

/-! ## Lookups (R26) -/

/-- Key lookup finds a slot of the store with that key. -/
theorem findSlot_some (slots : List Slot) (w : WindowNo) (e : Epoch) (line : Nat) (x : Slot) (h : findSlot slots w e line = some x) :
    x ∈ slots ∧ x.hasKey w e line = true :=
  ⟨List.mem_of_find?_eq_some h, by simpa using List.find?_some h⟩

/-- Key lookup finds nothing exactly when no slot has the key. -/
theorem findSlot_none (slots : List Slot) (w : WindowNo) (e : Epoch) (line : Nat) :
    findSlot slots w e line = none ↔ ∀ x ∈ slots, x.hasKey w e line = false := by
  simp [findSlot]

/-- Key lookup finds the slot that has the key. -/
theorem findSlot_of_mem (slots : List Slot) (h : slotsOrdered slots) (x : Slot) (hx : x ∈ slots) (w : WindowNo) (e : Epoch)
    (line : Nat) (hk : x.hasKey w e line = true) : findSlot slots w e line = some x := by
  cases hf : findSlot slots w e line with
  | none => rw [(findSlot_none slots w e line).1 hf x hx] at hk; cases hk
  | some y =>
    obtain ⟨hy, hky⟩ := findSlot_some slots w e line y hf
    simp only [Slot.hasKey, Bool.and_eq_true, decide_eq_true_eq] at hk hky
    refine congrArg some (slotsOrdered_unique slots h x y hx hy ?_).symm
    simp only [Slot.hasKey, Bool.and_eq_true, decide_eq_true_eq]
    exact ⟨⟨hky.1.1.trans hk.1.1.symm, hky.1.2.trans hk.1.2.symm⟩, hky.2.trans hk.2.symm⟩

theorem mem_groupSlots (slots : List Slot) (m : Member) (x : Slot) :
    x ∈ groupSlots slots m ↔ x ∈ slots ∧ x.window = m.window ∧ x.epoch = m.epoch := by
  simp [groupSlots]

/-- R86: what the drain order names: a member and the line of one of its slots. -/
theorem mem_drainOrder (slots : List Slot) (ms : List Member) (p : Member × Nat) :
    p ∈ drainOrder slots ms ↔ p.1 ∈ ms ∧ ∃ x ∈ slots, x.hasKey p.1.window p.1.epoch p.2 = true := by
  obtain ⟨m, line⟩ := p
  simp only [drainOrder, List.mem_flatMap, List.mem_map, mem_groupSlots, Prod.mk.injEq, Slot.hasKey, Bool.and_eq_true,
    decide_eq_true_eq]
  constructor
  · rintro ⟨m', hm, x, ⟨hx, h1, h2⟩, rfl, rfl⟩
    exact ⟨hm, x, hx, ⟨h1, h2⟩, rfl⟩
  · rintro ⟨hm, x, hx, ⟨h1, h2⟩, h3⟩
    exact ⟨m, hm, x, ⟨hx, h1, h2⟩, rfl, h3⟩

/-- R86: a resume point within the drain order names a slot. -/
theorem slotAt_of_mem_drainOrder (s : State) (ms : List Member) (p : Member × Nat) (h : p ∈ drainOrder s.slots ms) :
    ∃ x, s.slotAt p = some x := by
  obtain ⟨-, x, hx, hk⟩ := (mem_drainOrder s.slots ms p).1 h
  cases hf : s.slotAt p with
  | some y => exact ⟨y, rfl⟩
  | none => rw [(findSlot_none _ _ _ _).1 hf x hx] at hk; cases hk

/-! ## Staging and freeing (R30, R31, R42) -/

/-- R30, R31: what staging a beat can do: merge into the slot with its key, or allocate a slot. -/
theorem State.stage_cases (s t : State) (w : WindowNo) (addr : Nat) (wd : Word) (be : BitVec 4) (h : s.stage w addr wd be = some t) :
    ∃ d e held g, s.win w = .capturing d e held g ∧
      ((∃ x, findSlot s.slots w e (lineOf addr) = some x ∧
        t = (s.setSlots (changeSlots (·.hasKey w e (lineOf addr))
            (fun y => { y with cells := mergeCells y.cells (offsetOf addr) (beatLanes wd be) }) s.slots)).setWin w
          (.capturing d e held { g with bytes := g.bytes + newlyValid x.cells (offsetOf addr) (beatLanes wd be) })) ∨
      (findSlot s.slots w e (lineOf addr) = none ∧ 0 < s.freeSlotCount ∧ held < d.quota ∧
        t = (s.setSlots (insertSlot
            { status := .opened, window := w, epoch := e, line := lineOf addr,
              cells := mergeCells emptyCells (offsetOf addr) (beatLanes wd be), written := false } s.slots)).setWin w
          (.capturing d e (held + 1) { g with lines := g.lines + 1, bytes := g.bytes + strobeCount be }))) := by
  unfold State.stage at h
  split at h
  · rename_i d e held g hw
    refine ⟨d, e, held, g, hw, ?_⟩
    split at h
    · rename_i x hx
      cases h
      exact .inl ⟨x, hx, rfl⟩
    · rename_i hx
      split at h
      · rename_i hc
        cases h
        exact .inr ⟨hx, hc.1, hc.2, rfl⟩
      · cases h
  · cases h

/-- R25, R27: staging a beat keeps the store in its form. -/
theorem State.stage_storeWf (s t : State) (w : WindowNo) (addr : Nat) (wd : Word) (be : BitVec 4)
    (h : s.stage w addr wd be = some t) (hs : s.StoreWf) : t.StoreWf := by
  obtain ⟨d, e, held, g, -, ⟨x, -, rfl⟩ | ⟨hn, hf, -, rfl⟩⟩ := s.stage_cases t w addr wd be h
  · exact ⟨changeSlots_ordered _ _ s.slots hs.1 fun _ => ⟨rfl, rfl, rfl⟩, (changeSlots_length _ _ s.slots).trans_le hs.2⟩
  · refine ⟨insertSlot_ordered _ s.slots hs.1 ((findSlot_none _ _ _ _).1 hn), (insertSlot_length _ s.slots).trans_le ?_⟩
    have : 0 < Config.slotCount - s.slots.length := hf
    simp only [Config.slotCount] at this
    omega

@[simp] theorem State.freeSlots_slots (s : State) (p : Slot → Bool) : (s.freeSlots p).slots = s.slots.filter fun x => !p x := rfl

/-- R42: each window's count falls by the number of its slots freed. -/
@[simp] theorem State.freeSlots_win (s : State) (p : Slot → Bool) (w : WindowNo) :
    (s.freeSlots p).win w = (s.win w).dropHeld (s.slots.countP fun x => p x && x.window = w) := by
  unfold State.freeSlots
  rw [mapWindows_win]
  rfl

/-- R25, R27: freeing slots keeps the store in its form. -/
theorem State.freeSlots_storeWf (s : State) (p : Slot → Bool) (hs : s.StoreWf) : (s.freeSlots p).StoreWf := by
  refine ⟨?_, ?_⟩
  · simpa using filter_ordered _ _ hs.1
  · exact le_trans (List.length_filter_le _ _) hs.2

end Sys2Proof.Machine
end

