-- ==== Sys2Proof/Tests/Slice0.lean ====
section
/-! SUPPORT. Tests of the model: the ill-formed commands that WellFormed refuses, the worked values of the spec, and for every
obligation with hypotheses a witness, a concrete state and operands that meet them (clause by clause, in the obligation's order). -/

namespace Sys2Proof.Tests

open Sys2Proof.Machine

/-! ## WellFormed -/

/-- R135: a long frame carries 1 to 64 words. -/
theorem test_wellFormed_longBody :
    Instr.wellFormed (.close 0 0 (.long [])) = false ∧ Instr.wellFormed (.close 0 0 (.long (List.replicate 65 0))) = false ∧
    Instr.wellFormed (.close 0 0 (.long (List.replicate 64 0))) = true ∧ Instr.wellFormed (.close 0 0 (.long [0])) = true := by decide

/-- R154: UNKNOWN_KIND names no kind of Table 8-1 and not FFH. -/
theorem test_wellFormed_unknownKind :
    Instr.wellFormed (.unknownKind 0x11 0 0 (.short 0)) = false ∧ Instr.wellFormed (.unknownKind 0xFF 0 0 (.short 0)) = false ∧
    Instr.wellFormed (.unknownKind 0x00 0 0 (.long [])) = false ∧ Instr.wellFormed (.unknownKind 0x82 0 0 (.short 0)) = true := by
  decide

/-- The catalogue of WellFormed is the kinds' codes of the command path. -/
theorem test_catalogue : catalogue = allKinds.map Kind.code := by decide

/-- The table gives no row any bits, so no word spells a command. -/
theorem test_decodeTableWord : decodeTableWord 8 0x11 = none ∧ decodeTableWord 0 0 = none := by decide

/-! ## Values the spec writes out -/

/-- R136, R137, R129: the check values over the digits 1 to 9. -/
theorem test_checks :
    crc8 [0x31, 0x32, 0x33, 0x34, 0x35, 0x36, 0x37, 0x38, 0x39] = 0xF4#8 ∧
    crc16 [0x31, 0x32, 0x33, 0x34, 0x35, 0x36, 0x37, 0x38, 0x39] = 0x29B1#16 ∧
    crc32c [0x31, 0x32, 0x33, 0x34, 0x35, 0x36, 0x37, 0x38, 0x39] = 0xE3069283#32 := by decide +kernel

/-- Section 8.2.1: WIN_START of window 3 on channel 1 with tag 5, and its ACK. -/
theorem test_exampleFrame :
    Frame.bytes { kind := Kind.code .winStart, ch := 1, tag := 5, body := .short 3 } = [0x11#8, 0x45#8, 0x03#8, 0xDA#8] ∧
    Response.bytes { ch := 1, tag := 5, reply := .ack } = [0x80#8, 0x45#8, 0x00#8, 0x11#8] := by decide +kernel

/-- Table 1-2: four addresses against the window of section 1.2.1. -/
theorem test_membership :
    let g : Geometry := .rect 0x100000 2800 1600 480
    g.contains 0x100000 = true ∧ g.contains 0x100640 = false ∧ g.contains 0x100AF0 = true ∧ g.contains 0x247D4C = true ∧
    g.span = (0x100000, 0x247D4F) := by decide

/-- Section 6.5: line 300060H with bytes 0 to 19 valid contributes 28 stream bytes, its address and mask first. -/
theorem test_lineStream :
    let cs : Cells := Vector.ofFn fun i => if i.val < 20 then some 0x5A else none
    (lineStream 0x300060 cs).length = 28 ∧
    (lineStream 0x300060 cs).take 8 = [0x00#8, 0x30#8, 0x00#8, 0x60#8, 0x00#8, 0x0F#8, 0xFF#8, 0xFF#8] := by decide +kernel

/-! ## States of the witnesses -/

/-- A definition over addresses 40H to 7FH of channel 0. -/
def dfn (policy : FullPolicy) (quota : Nat) : WindowDef :=
  { owner := 0, geometry := .linear 0x40 0x40, policy := policy, mode := .strict, quota := quota }

def noFlags : BatchFlags :=
  { spanned := false, forced := false, writeLost := false, writeBypassed := false, memError := false, cut := false }

/-- A slot of window 1 with its first word valid. -/
def slotOf (status : SlotStatus) (epoch : Epoch) (line : Nat) : Slot :=
  { status := status, window := 1, epoch := epoch, line := line, written := false
    cells := Vector.ofFn fun i => if i.val < 4 then some 0xAA else none }

def group1 : OpenGroup := { lines := 1, bytes := 4, flags := { writeLost := false, writeBypassed := false } }

/-- Reset, with window 1 as the entry. -/
def withWin (e : WindowEntry) : State := State.reset.setWin 1 e

/-- Window 1 CAPTURING at epoch 1 with the given slots. -/
def capturing (policy : FullPolicy) (quota : Nat) (slots : List Slot) : State :=
  { withWin (.capturing (dfn policy quota) 1 slots.length group1) with slots := slots }

/-- A host transaction whose next beat is to come, of the word at `a`. -/
def txn (a : Nat) (wr : Bool) : HostTransaction :=
  { req := { adr := BitVec.ofNat 22 (a / 4), wr := wr, cnt := 0 }, index := 0, beat := .waiting }

/-- The state with that transaction in progress. -/
def beatAt (s : State) (a : Nat) (wr : Bool) : State := { s with hpi := { s.hpi with txn := some (txn a wr) } }

/-- A held beat of window 1. -/
def heldBeat (reason : HoldReason) (elapsed : Nat) : HeldBeat :=
  { window := 1, addr := 0x60, be := 0xF, wd := 0x01020304, reason := reason, elapsed := elapsed }

def heldTxn (reason : HoldReason) (elapsed : Nat) : HostTransaction :=
  { txn 0x60 true with beat := .held (heldBeat reason elapsed) }

/-- The state with that beat held. -/
def holding (s : State) (reason : HoldReason) (elapsed : Nat) : State :=
  { s with hpi := { s.hpi with txn := some (heldTxn reason elapsed) } }

/-- A batch of window 1's group of epoch 0. -/
def batch (state : BatchState) (lines : Nat) : BatchRecord :=
  { seq := 7, members := [{ window := 1, epoch := 0 }], lines := lines, bytes := 4 * lines, strict := true, retireSet := [],
    state := state, flags := noFlags, intervals := 0 }

def mem1 : Member := { window := 1, epoch := 0 }

/-- A QUEUED batch of one line at the head, window 1 IDLE-free and CAPTURING at epoch 1. -/
def queued (phase : DrainPhase) : State :=
  { capturing .stall 2 [slotOf .queued 0 0x40] with
    queue := [batch .queued 1]
    drain := { State.reset.drain with phase := phase, remainder := 64 } }

/-- The same batch with no lines. -/
def queuedEmpty (phase : DrainPhase) : State :=
  { withWin (.capturing (dfn .stall 2) 1 0 newGroup) with
    queue := [batch .queued 0]
    drain := { State.reset.drain with phase := phase } }

def line0 : LineInProgress :=
  { member := mem1, line := 0x40, cells := (slotOf .draining 0 0x40).cells, runs := [] }

def run0 : DrainRun := { addr := 0x40, beats := [wordCells (slotOf .draining 0 0x40).cells 0] }

def drainFields (resume : Nat) : DrainFields :=
  { resume := some (mem1, resume), lines := 0, bytes := 0, crc := crc32cInit }

/-- A batch DRAINING, with line 40H in progress, its last run on the port, and `more` further lines. -/
def writing (phase : DrainPhase) (remainder : Nat) (more : List Slot) : State :=
  { capturing .stall 8 (slotOf .draining 0 0x40 :: more) with
    queue := [batch (.draining (drainFields 0x40)) (1 + more.length)]
    log := { records := [], reserved := true }
    drain := { State.reset.drain with phase := phase, remainder := remainder, activity := .writing line0 }
    mpa := { State.reset.mpa with port := some (.drainRun run0 0), interlock := some 0x40 } }

/-- The same batch paused before its line. -/
def paused : State :=
  { writing .closed 0 [] with
    drain := { State.reset.drain with activity := .held }
    mpa := State.reset.mpa }

/-- The starvation timer RUNNING toward 2 ms. -/
def starving (elapsed micros : Nat) : State :=
  { queued .closed with
    config := { State.reset.config with starvationLimit := 2 }
    drain := { State.reset.drain with timer := { expired := false, elapsed := elapsed, micros := micros } } }

/-- The same with force enabled. -/
def starvingForced (s : State) : State := { s with config := { s.config with starvationLimit := 2, forceEnable := true } }

/-- A transfer period in progress at a frame boundary. -/
def linkUp : State := { State.reset with lsel := false, slc := { State.reset.slc with assembler := .frameStart } }

def ackPlace : Place := .filled { ch := 0, tag := 0, reply := .ack }

def places (s : State) (ps : List Place) : State := { s with slc := { s.slc with responses := ps } }

def record0 : CompletionRecord :=
  { seq := 7, mask := 2, outcome := .drained, flags := noFlags, intervals := 1, lines := 512, frameCount := 0, bytes := 16384,
    signature := 0 }

def fullLog (s : State) : State := { s with log := { s.log with records := List.replicate 32 record0 } }

/-! ## One step each -/

/-- Section 8.2.1: window 3, IDLE and of channel 1, is started, and its epoch is left where it stands (R13). -/
theorem test_winStart_accepted :
    let d : WindowDef := { dfn .stall 2 with owner := 1 }
    ∃ t, exec (.winStart 1 5 (.short 3)) (State.reset.setWin 3 (.idle d 9)) = .next t ∧
      t.win 3 = .capturing d 9 0 newGroup ∧ t.slc.responses = [.filled { ch := 1, tag := 5, reply := .ack }] := by
  exact ⟨_, rfl, by decide, by decide⟩

/-- Section 8.2.1: owned by channel 2, it is refused with OWNER. -/
theorem test_winStart_owner :
    let d : WindowDef := { dfn .stall 2 with owner := 2 }
    ∃ t, exec (.winStart 1 5 (.short 3)) (State.reset.setWin 3 (.idle d 9)) = .next t ∧
      t.slc.responses = [.filled { ch := 1, tag := 5, reply := .nak .owner }] := by
  exact ⟨_, rfl, by decide⟩

/-- R49: the number after 65535 is 1. -/
theorem test_close_sequenceWraps :
    let s := { capturing .stall 2 [slotOf .opened 1 0x40] with nextSeq := 0xFFFF }
    ∃ t, exec (.close 0 0 (.long [0x00000002#32])) s = .next t ∧ t.nextSeq = 1#16 ∧
      t.slc.responses = [.filled { ch := 0, tag := 0, reply := .data [0x0000FFFF#32] }] := by
  exact ⟨_, rfl, by decide, by decide⟩

/-- R14, R63: from epoch 255 the counter wraps, past the epoch 0 that a group in the queue still has. -/
theorem test_winAbort_epochWraps :
    let s := { withWin (.capturing (dfn .stall 2) 255 0 newGroup) with queue := [batch .queued 1] }
    ∃ t, exec (.winAbort 0 0 (.short 1)) s = .next t ∧ t.win 1 = .capturing (dfn .stall 2) 1 0 newGroup := by
  exact ⟨_, rfl, by decide⟩

/-- R104: byte strobe 0 and data bits 7 to 0 belong to the byte at the word address. -/
theorem test_hostWriteBeat_lanes :
    let s := beatAt (capturing .stall 2 []) 0x44 true
    ∃ t, exec (.hostWriteBeat 0x44332211 0x5) s = .next t ∧
      (t.newestByte 1 0x44, t.newestByte 1 0x45, t.newestByte 1 0x46, t.newestByte 1 0x47) = (some 0x11, none, some 0x33, none) := by
  exact ⟨_, rfl, by decide⟩

/-- R113: the staged lanes carry the staged bytes and the others memory's, even with an ERROR answer. -/
theorem test_memoryBeatAnswer_merge :
    let x := { txn 0x40 false with beat := .reading #v[some 0xA0, none, none, some 0xA3] }
    let s := { State.reset with
               hpi := { State.reset.hpi with txn := some x }
               mpa := { State.reset.mpa with port := some (.hostRead 0x40) } }
    ∃ t, exec (.memoryBeatAnswer true 0x33221100) s = .next t ∧
      t.hpi.answer = some { err := true, data := some 0xA32211A0 } := by
  exact ⟨_, rfl, by decide⟩

/-- R96, R97: the timer's expiry without force enabled leaves the phase CLOSED. -/
theorem test_starvation_withoutForce :
    ∃ t, exec .starvationTimerExpiry (starving 1 999) = .next t ∧ t.drain.phase = .closed ∧ t.starvationState = .expired ∧
      EventSet.has t.events .starved = true := by
  exact ⟨_, rfl, by decide, by decide, by decide⟩

/-- R90: a quiet end during a batch's last line does not mark it SPANNED. -/
theorem test_quietEnd_lastLine :
    ∃ t, exec .quietEnd { writing .quiet 60 [] with quiet := true } = .next t ∧ t.drain.phase = .closed ∧
      t.queue = (writing .quiet 60 []).queue := by
  exact ⟨_, rfl, by decide, by decide⟩

/-- R99: a CONFIG_SET that lowers the starvation limit below the elapsed time expires the timer and keeps its elapsed time. -/
theorem test_configSet_keepsElapsed :
    let s := { starving 5 7 with config := { (starving 5 7).config with starvationLimit := 9 } }
    ∃ t, exec (.configSet 0 0 (.long [0x01000003#32, 0x03E80000#32, 0x7FF#32])) s = .next t ∧ t.starvationState = .expired ∧
      t.drain.timer.elapsed = 5 := by
  exact ⟨_, rfl, by decide, by decide⟩

/-- R134, R146: nothing is sent between transfer periods. -/
theorem test_responseSent_betweenPeriods :
    exec .responseSent (places State.reset [ackPlace]) = .next (places State.reset [ackPlace]) := by rfl

/-- R141: the assembler returns to FRAME_START after a payload check failure. -/
theorem test_payloadCheckFailure_assembler :
    let h : LongHeader := { kind := 0x20, ch := 0, tag := 0, reservedBit := false, words := 1 }
    ∃ t, exec (.payloadCheckFailure 0 0) (linkUp.setAssembler (.payload h [1, 2])) = .next t ∧ t.slc.assembler = .frameStart := by
  exact ⟨_, rfl, by decide⟩

/-- R73: a batch ends its last line in phase QUIET with another behind it: the next batch starts, but for a WIPE that stands next. -/
def lastLine (next : List Instr) : State :=
  let s := writing .quiet 60 []
  { s with pending := next, queue := s.queue ++ [{ batch .queued 0 with seq := 8, members := [{ window := 1, epoch := 5 }] }] }

/-- R94: the next batch, which has no lines, completes in the same event. -/
theorem test_lastLine_startsTheNext :
    ∃ t, exec (.memoryBeatAnswer false 0) (lastLine []) = .next t ∧ t.queue = [] ∧ t.log.records.length = 2 := by
  exact ⟨_, rfl, by decide, by decide⟩

/-- R73: a WIPE taken together with the completion finds the next batch QUEUED, as the completion leaves it. -/
theorem test_lastLine_wipeFindsTheNextQueued :
    ∃ t, exec (.memoryBeatAnswer false 0) (lastLine [.wipe 0 0 (.short 0)]) = .next t ∧
      t.queue.map (·.isQueued) = [true] ∧ t.log.records.map (·.outcome) = [.drained] ∧ t.drain.activity = .idle := by
  exact ⟨_, rfl, by decide, by decide, by decide⟩

/-! ## Witnesses: the step, the pins and the laws -/

theorem witness_StepRunsTheFrontCommand :
    { State.reset with pending := [.quietStart, .quietEnd] }.pending = [.quietStart, .quietEnd] := by decide

theorem witness_IdleStepCountsOneMicrosecond :
    ({ State.reset with resetn := false }.pending = [] ∧ { State.reset with resetn := false }.resetn = false) ∧
    (State.reset.resetn = true ∧ State.reset.timerRuns = false ∧ State.reset.hpi.held = none) ∧
    ((holding State.reset .stall 0).timerRuns = false ∧ (holding State.reset .stall 0).hpi.txn = some (heldTxn .stall 0) ∧
      0 + 1 < State.reset.config.stallLimit.toNat) ∧
    ((holding State.reset .stall 999).hpi.held = some (heldBeat .stall 999) ∧ State.reset.config.stallLimit.toNat ≤ 999 + 1) ∧
    ((starving 0 0).timerRuns = true ∧ (starving 0 0).hpi.held = none ∧ 0 < (starving 0 0).config.starvationLimit.toNat ∧
      0 + 1 < 1000) ∧
    ((starving 0 999).timerRuns = true ∧ 0 + 1 < (starving 0 999).config.starvationLimit.toNat ∧ 1000 ≤ 999 + 1) ∧
    ((starving 1 999).timerRuns = true ∧ (starving 1 999).config.starvationLimit.toNat ≤ 1 + 1) ∧
    ((starving 2 0).timerRuns = true ∧ (starving 2 0).hpi.held = none ∧ (starving 2 0).config.starvationLimit.toNat ≤ 2) ∧
    (let both (elapsed micros held : Nat) := holding (starving elapsed micros) .stall held;
      (both 0 999 998).timerRuns = true ∧ (both 0 999 998).hpi.txn = some (heldTxn .stall 998) ∧
      998 + 1 < (both 0 999 998).config.stallLimit.toNat ∧ ¬999 + 1 < (both 1 999 999).config.stallLimit.toNat ∧
      (both 1 999 999).timerRuns = true ∧ (both 1 999 999).config.starvationLimit.toNat = 1 + 1 ∧
      (both 2 0 999).config.starvationLimit.toNat ≤ 2) := by decide

theorem witness_ResetnLowHoldsEverything :
    { State.reset with resetn := false }.resetn = false ∧ Instr.quietStart ≠ .hardwareReset ∧ Instr.quietStart ≠ .resetRelease ∧
    Instr.byteSent ≠ .hardwareReset ∧ Instr.byteSent ≠ .resetRelease := by decide

theorem witness_HardwareResetClearsEveryBlock : State.reset.resetn = true := by decide

/-- A step that allocates a slot, at a state that meets every law. -/
def allocating : State :=
  { beatAt (withWin (.capturing (dfn .stall 1) 0 0 newGroup)) 0x40 true with pending := [.hostWriteBeat 0x01020304 0xF] }

theorem witness_StepKeepsTheStore :
    allocating.StoreWf ∧ ∃ t, step allocating = .next t ∧ t.slots.length = 1 := ⟨by decide, _, rfl, by decide⟩

/-- A step that defines a window. -/
def defining : State :=
  { withWin (.capturing (dfn .stall 1) 0 0 newGroup) with
    pending := [.winDefine 0 0 (.long [0x02010101#32, 0x00010000#32, 0x00000080#32, 0x00000020#32, 0#32])] }

theorem witness_StepKeepsSpansAndQuotas :
    (defining.SpansDisjoint ∧ ∃ t, step defining = .next t ∧ (t.win 2).isIdle = true) ∧
    (allocating.WithinQuota ∧ ∃ t, step allocating = .next t ∧ (t.win 1).slotsHeld = 1) :=
  ⟨⟨by decide, _, rfl, by decide⟩, by decide, _, rfl, by decide⟩

/-- A step that starts a batch. -/
def starting : State := { queued .quiet with pending := [.drainStart] }

theorem witness_StepKeepsTheDrainLaw :
    starting.DrainLaw ∧ ∃ t, step starting = .next t ∧ t.log.reserved = true := ⟨by decide, _, rfl, by decide⟩

theorem witness_StepKeepsPortAndLink :
    (starting.PortSettled ∧ ∃ t, step starting = .next t ∧ t.mpa.port ≠ none) ∧
    (State.LinkLaw defining ∧ ∃ t, step defining = .next t ∧ t.slc.responses.length = 1) :=
  ⟨⟨by decide, _, rfl, by decide⟩, by decide, _, rfl, by decide⟩

theorem witness_StepKeepsEverySlotInItsPlace :
    allocating.StoreWf ∧ allocating.DrainLaw ∧ allocating.LinkLaw ∧ allocating.FreshSequences ∧ allocating.SlotLaw ∧
    ∃ t, step allocating = .next t ∧ t.slots.length = 1 := by
  refine ⟨by decide, by decide, by decide, by decide, ?_, _, rfl, by decide⟩
  have only : ∀ w : WindowNo, allocating.win w = .free ∨ allocating.win w = .capturing (dfn .stall 1) 0 0 newGroup := by decide
  exact
    { held := by decide
      opened := fun x hx => nomatch hx
      group := by
        intro w d e n g h
        rcases only w with h' | h' <;> rw [h'] at h <;> cases h
        exact ⟨rfl, rfl, by simp [show allocating.queue = [] from rfl, queueGroups]⟩
      closed := by decide
      batch := by decide
      epochs := by decide
      retiring := by
        intro w d e n q h
        rcases only w with h' | h' <;> rw [h'] at h <;> cases h
      idle := by decide
      beat := by decide }

theorem witness_FrameCountAndEventsChangeAsNamed :
    (∃ t, exec .quietEnd State.reset = .next t) ∧ (∃ t, exec .quietStart State.reset = .next t ∧ t.drain.frameCount = 1#16) ∧
    (∃ t, exec .quietStart State.reset = .next t ∧ EventSet.has t.events .restarted = true) ∧
    (Instr.wellFormed .quietStart = true ∧ Instr.quietStart ≠ .hardwareReset ∧ firstAwaiting State.reset.slc.responses = none ∧
      EventSet.has State.reset.events .restarted = true) ∧
    (∃ t, exec .headerCheckFailure linkUp = .next t ∧ EventSet.has t.events .linkError = true ∧
      EventSet.has linkUp.events .linkError = false) :=
  ⟨⟨_, rfl⟩, ⟨_, rfl, by decide⟩, ⟨_, rfl, by decide⟩, by decide, _, rfl, by decide⟩

/-- The last line address there is. -/
theorem witness_SignatureIsTheStatedCrc : 0xFFFFE0 < 2 ^ 24 := by decide

/-! ## Witnesses: the setup link -/

theorem witness_FrameBytesReachTheCommandPath :
    (FrameBody.wellFormed (.short 0xFF) = true ∧ FrameBody.wellFormed (.long (List.replicate 64 0)) = true ∧
      linkUp.resetn = true ∧ linkUp.slc.assembler = .frameStart) ∧
    0xFE#8 ≠ 0xFF#8 := by decide

theorem witness_FaultyFramesReachTheirRefusals :
    linkUp.resetn = true ∧ linkUp.slc.assembler = .frameStart ∧ 0x20#8 ≠ 0xFF#8 ∧
    0xDB#8 ≠ crc8 [0x11#8, 0x45#8, 0x03#8] ∧
    (∃ c, c = crc8 [0x20#8, 0x20#8, 0x41#8] ∧ (0x20#8).getLsbD 5 = true ∧ 64 < (0x41#8).toNat) ∧
    (∃ c, c = crc8 [0x11#8, 0x10#8, 0x03#8] ∧ (0x10#8).getLsbD 5 = false ∧ (0x10#8).getLsbD 4 = true) ∧
    (∃ c, c = crc8 [0x20#8, 0x30#8, 0x01#8] ∧ (0x30#8).getLsbD 5 = true ∧ 1 ≤ (0x01#8).toNat ∧ (0x30#8).getLsbD 4 = true ∧
      (List.replicate 4 0x00#8).length = 4 * (0x01#8).toNat) ∧
    (∃ c, c = crc8 [0x20#8, 0x20#8, 0x40#8] ∧ (0x40#8).toNat ≤ 64 ∧ (0x20#8).getLsbD 4 = false ∧
      (List.replicate 256 0x00#8).length = 4 * (0x40#8).toNat ∧
      ∃ c0 c1 : Byte, c0 ++ c1 ≠ crc16 (List.replicate 256 0x00#8)) :=
  ⟨rfl, rfl, by decide, by decide +kernel, ⟨_, rfl, by decide⟩, ⟨_, rfl, by decide⟩, ⟨_, rfl, by decide⟩,
    ⟨_, rfl, by decide, by decide, by decide +kernel, by
      by_cases h : (0#8 ++ 0#8 : BitVec 16) = crc16 (List.replicate 256 0x00#8)
      · exact ⟨0, 1, by rw [← h]; decide⟩
      · exact ⟨0, 0, h⟩⟩⟩

theorem witness_TransferPeriodEdges :
    State.reset.resetn = true ∧ State.reset.lsel = true ∧ linkUp.resetn = true ∧ linkUp.lsel = false := by decide

theorem witness_ByteReceivedFollowsTheTable :
    (State.reset.resetn = true ∧ State.reset.slc.assembler = .idle) ∧
    (linkUp.resetn = true ∧ linkUp.slc.assembler = .frameStart ∧ 0xFF#8 = 0xFF#8 ∧ 0x11#8 ≠ 0xFF#8) ∧
    ((linkUp.setAssembler (.header [0x11, 0x45])).slc.assembler = .header [0x11#8, 0x45#8] ∧ [0x11#8, 0x45#8].length < 3) ∧
    (let h : LongHeader := { kind := 0x20, ch := 0, tag := 0, reservedBit := false, words := 1 };
      (linkUp.setAssembler (.payload h [])).slc.assembler = .payload h [] ∧ 4 + 1 < 4 * h.words + 2) := by decide

theorem witness_TransmitterSendsFramesAndFill :
    (let s := places linkUp [ackPlace];
      s.resetn = true ∧ s.slc.responses = [ackPlace] ∧ s.slc.txFill = false ∧ s.slc.assembler ≠ .idle ∧ s.slc.txPos = 0 ∧
      3 < (Response.bytes { ch := 0, tag := 0, reply := .ack }).length) ∧
    (let s := { linkUp with slc := { linkUp.slc with responses := [ackPlace], txPos := 3 } };
      s.slc.assembler ≠ .idle ∧ s.slc.txPos < (Response.bytes { ch := 0, tag := 0, reply := .ack }).length ∧
      s.slc.txPos + 1 = (Response.bytes { ch := 0, tag := 0, reply := .ack }).length) ∧
    (State.reset.slc.assembler = .idle ∧ linkUp.slc.responses = [] ∧ linkUp.slc.assembler ≠ .idle) := by decide

theorem witness_ResponseFramesHaveTheirForm :
    (Response.ch { ch := 3, tag := 15, reply := .ack } : Channel) = 3 ∧
    (Response.tag { ch := 3, tag := 15, reply := .ack } : Tag) = 15 := by decide

theorem witness_HeaderCheckFailureIgnoresTheRest : linkUp.resetn = true ∧ linkUp.slc.assembler ≠ .idle := by decide

theorem witness_RefusedFramesAreAnswered :
    (linkUp.setAssembler (.header [0x20])).LinkReady ∧ linkUp.LinkReady ∧ linkUp.slc.assembler ≠ .idle ∧ State.reset.LinkReady ∧
    State.reset.slc.assembler = .idle := by decide

theorem witness_FramesClaimPlaces :
    ((places State.reset (List.replicate 8 ackPlace)).resetn = true ∧
      8 ≤ (places State.reset (List.replicate 8 ackPlace)).slc.responses.length) ∧
    (places State.reset (List.replicate 7 ackPlace)).slc.responses.length < 8 ∧
    (let s := { State.reset with slc := { State.reset.slc with wipeTaken := true } };
      s.resetn = true ∧ s.slc.responses.length < 8 ∧ s.slc.wipeTaken = true) := by decide

theorem witness_WrongFormIsRefusedWithLength :
    State.reset.LinkReady ∧ Kind.formOk .close (.long [0, 0]) = false ∧ Kind.formOk .ident (.long [0]) = false := by decide

theorem witness_UnknownKindIsRefused :
    linkUp.LinkReady ∧ 0x82#8 ∉ catalogue ∧ linkUp.slc.assembler = .frameStart := by decide

/-! ## Witnesses: the request kinds -/

theorem witness_IdentAnswersTheCapacities :
    (places (queued .quiet) (List.replicate 7 ackPlace)).LinkReady := by decide

theorem witness_StatusReportsTheDevice :
    (fullLog (queued .quiet)).LinkReady ∧ (fullLog (queued .quiet)).QueueLaw ∧ (fullLog (queued .quiet)).LogLaw ∧
    (fullLog (queued .quiet)).StoreWf := by decide

theorem witness_ConfigGetReturnsTheRecord :
    State.reset.LinkReady ∧ (places State.reset (List.replicate 6 ackPlace)).slc.responses.length < 7 ∧
    (places State.reset (List.replicate 6 ackPlace)).LinkReady := by decide

theorem witness_ConfigSetIsChecked :
    (queued .closed).LinkReady ∧ (0x0000FFFF#32).toNat / 2 ^ 16 = 0 ∧
    ((0x00010000#32).toNat / 2 ^ 16 ≠ 0 ∧ (0x00010000#32).toNat % 2 ^ 16 / 2 = 0 ∧ (0x000007FF#32).toNat / 2 ^ 11 = 0) ∧
    (let s := { queued .closed with queue := [{ batch .queued 1 with bytes := 65 }] };
      s.LinkReady ∧ ∃ r ∈ s.queue, r.strict = true ∧ (0x00010000#32).toNat / 2 ^ 16 * 64 < r.bytes) ∧
    (∀ r ∈ (queued .closed).queue, r.strict = true → r.bytes ≤ (0x00010000#32).toNat / 2 ^ 16 * 64) := by decide

theorem witness_ConfigSetReplacesTheRecord :
    let c : ConfigRecord := { State.reset.config with starvationLimit := 1, stallLimit := 1 }
    (queued .forced).LinkReady ∧ (queued .forced).PortSettled ∧ c.budget ≠ 0#16 ∧ c.stallLimit ≠ 0#16 ∧
    ∀ r ∈ (queued .forced).queue, r.strict = true → r.bytes ≤ c.budget.toNat * 64 := by decide

theorem witness_LimitSignatureAndEventRequests :
    State.reset.LinkReady ∧ (0x07#8).toNat < 8 ∧ 64 < (0x41#8).toNat ∧ (8 ≤ (0x08#8).toNat ∧ (0x40#8).toNat ≤ 64) ∧
    (0x00000800#32).toNat / 2 ^ 11 ≠ 0 ∧ (0x000007FF#32).toNat / 2 ^ 11 = 0 := by decide

theorem witness_ResyncEmptiesTheQueue : (places linkUp (List.replicate 7 ackPlace)).LinkReady := by decide

theorem witness_WipeEmptiesThePart :
    paused.LinkReady ∧ paused.lineInProgress = none ∧ paused.QueueLaw ∧ paused.StoreWf := by decide

theorem witness_WipeWaitsForTheLine :
    ((writing .quiet 0 []).LinkReady ∧ (writing .quiet 0 []).lineInProgress.isSome = true) ∧
    (let behind : List Request :=
        [.frame { kind := 0x02, ch := 0, tag := 1, body := .short 0 }, .refused 0 2 .check, .refused 0 3 .length];
      let waiting : List Place :=
        ackPlace :: .awaiting (.frame { kind := 0x05, ch := 2, tag := 9, body := .short 0 }) :: behind.map .awaiting;
      let s : State := { paused with slc := { paused.slc with responses := waiting, wipeTaken := true } };
      s.resetn = true ∧ s.PortSettled ∧ s.slc.wipeTaken = true ∧ s.lineInProgress = none ∧ firstAwaiting [ackPlace] = none ∧
      [ackPlace].length + behind.length < 8 ∧ (∀ q ∈ behind, q.standsFor s.slc.assembler = true) ∧
      s.slc.responses =
        [ackPlace] ++ .awaiting (.frame { kind := 0x05, ch := 2, tag := 9, body := .short 0 }) :: behind.map .awaiting) ∧
    State.reset.slc.wipeTaken = false := by decide

/-- The refusals of WIN_DEFINE at the edges of their ranges, and a definition accepted. -/
theorem witness_WinDefineIsCheckedAndTaken :
    defining.LinkReady ∧ 15 < (0x10010101#32).toNat / 2 ^ 24 ∧
    ((0x02010101#32).toNat / 2 ^ 24 = 2 ∧ (0x02010101#32).toNat / 2 ^ 16 % 2 ^ 8 = 1 ∧ (0x02010101#32).toNat / 2 ^ 8 % 2 ^ 8 = 1 ∧
      (0x02010101#32).toNat % 2 ^ 8 = 1 ∧ (0x02000000#32).toNat / 2 ^ 16 = 512 ∧
      (0x00FFFFFC#32).toNat + (4#32).toNat = 0x1000000) ∧
    (0x00000082#32).toNat % 4 ≠ 0 ∧ defining.win 1 ≠ .free ∧ defining.win 2 = .free ∧
    (∃ v, ∃ x ∈ (defining.win v).definition, 0x7C ≤ x.geometry.span.2 ∧ x.geometry.span.1 ≤ 0x83) ∧
    (∀ v, ∀ x ∈ (defining.win v).definition, ¬(0x80 ≤ x.geometry.span.2 ∧ x.geometry.span.1 ≤ 0x9F)) := by decide

theorem witness_WinStartAndWinRelease :
    let s := withWin (.idle (dfn .stall 2) 255)
    s.LinkReady ∧ 15 < (0x10#8).toNat ∧ (1 : WindowNo).val = (0x01#8).toNat ∧
    (∃ d ∈ (s.win 1).definition, d.owner ≠ (3 : Channel)) ∧
    ((∀ d ∈ (s.win 15).definition, d.owner = 0) ∧ s.win 15 = .free) ∧
    (s.win 1 = .idle (dfn .stall 2) 255 ∧ (dfn .stall 2).owner = 0) := by decide

theorem witness_WinQueryReportsTheEntry :
    State.reset.LinkReady ∧ 15 < (0x10#8).toNat ∧ (15 : WindowNo).val = (0x0F#8).toNat := by decide

theorem witness_EpochAdvancePassesOver :
    { queued .closed with queue := List.replicate 8 (batch .queued 1) }.queue.length ≤ 8 := by decide

theorem witness_WinAbortDiscardsTheOpenGroup :
    let s := capturing .stall 2 [slotOf .opened 1 0x40]
    s.LinkReady ∧ 15 < (0x10#8).toNat ∧ (1 : WindowNo).val = (0x01#8).toNat ∧
    (∃ d ∈ (s.win 1).definition, d.owner ≠ (1 : Channel)) ∧
    ((∀ d ∈ (s.win 2).definition, d.owner = 0) ∧ (s.win 2).isCapturing = false) ∧
    (s.win 1 = .capturing (dfn .stall 2) 1 1 group1 ∧ (dfn .stall 2).owner = 0 ∧ s.PortSettled) := by decide

/-- Each refusal of CLOSE, the earlier ones not holding. -/
theorem witness_CloseIsChecked :
    let s := capturing .stall 2 [slotOf .opened 1 0x40]
    let full := { s with queue := List.replicate 8 (batch .queued 0) }
    let tight := { s with config := { s.config with budget := 0 } }
    s.LinkReady ∧ (0x00010000#32).toNat % 2 ^ 16 = 0 ∧ (0x00020002#32).toNat / 2 ^ 17 ≠ 0 ∧
    ((0x00000002#32).toNat % 2 ^ 16 ≠ 0 ∧ (0x00000002#32).toNat / 2 ^ 17 = 0) ∧
    (∃ w : WindowNo, (0x00000002#32).getLsbD w.val = true ∧ ∃ d ∈ (s.win w).definition, d.owner ≠ (1 : Channel)) ∧
    ((¬∃ w : WindowNo, (0x00000002#32).getLsbD w.val = true ∧ ∃ d ∈ (s.win w).definition, d.owner ≠ (0 : Channel)) ∧
      ¬∃ w : WindowNo, (0x00000002#32).getLsbD w.val = true ∧ (s.win w).isCapturing = false) ∧
    (∃ w : WindowNo, (0x00008000#32).getLsbD w.val = true ∧ (s.win w).isCapturing = false) ∧
    (full.LinkReady ∧ 8 ≤ full.queue.length) ∧
    (tight.LinkReady ∧ (∃ d ∈ (tight.win 1).definition, d.mode = .strict) ∧ tight.config.budget.toNat * 64 < group1.bytes) := by
  decide

theorem witness_CloseFormsTheBatch :
    let s := capturing .stall 2 [slotOf .opened 1 0x40]
    let behind := { s with queue := List.replicate 7 (batch .queued 0) }
    s.LinkReady ∧ (0x00010002#32).toNat % 2 ^ 16 ≠ 0 ∧ (0x00010002#32).toNat / 2 ^ 17 = 0 ∧
    (∀ w : WindowNo, (0x00010002#32).getLsbD w.val = true →
      (s.win w).isCapturing = true ∧ ∀ d ∈ (s.win w).definition, d.owner = 0) ∧
    s.queue.length < 8 ∧ group1.bytes ≤ s.config.budget.toNat * 64 ∧
    (behind.LinkReady ∧ behind.queue ≠ [] ∧ behind.queue.length < 8) ∧
    (s.queue = [] ∧ s.drain.activity = .idle ∧ s.PortSettled) := by decide

theorem witness_CancelIsChecked :
    (queued .closed).LinkReady ∧ (0x00010000#32).toNat % 2 ^ 16 = 0 ∧
    ((0x0000FFFF#32).toNat % 2 ^ 16 ≠ 0 ∧ (0x0000FFFF#32).toNat / 2 ^ 16 = 0) ∧
    ((fullLog (queued .closed)).LinkReady ∧
      32 ≤ (fullLog (queued .closed)).log.records.length + (fullLog (queued .closed)).log.reserved.toNat) ∧
    (paused.LinkReady ∧ ¬32 ≤ paused.log.records.length + paused.log.reserved.toNat ∧
      paused.queue.find? (fun x => x.seq.toNat = (7#32).toNat) = some (batch (.draining (drainFields 0x40)) 1) ∧
      (batch (.draining (drainFields 0x40)) 1).isDraining = true) ∧
    (∀ r ∈ (queued .closed).queue, r.seq.toNat ≠ (0x0000FFFF#32).toNat) := by decide

theorem witness_CancelRemovesTheBatch :
    let s := queued .quiet
    s.LinkReady ∧ s.PortSettled ∧ (7#32).toNat % 2 ^ 16 ≠ 0 ∧ (7#32).toNat / 2 ^ 16 = 0 ∧
    s.log.records.length + s.log.reserved.toNat < 32 ∧
    s.queue.find? (fun x => x.seq.toNat = (7#32).toNat) = some (batch .queued 1) ∧ (batch .queued 1).isDraining = false ∧
    s.drain.activity ≠ .waitLog := by decide

theorem witness_LogReadReturnsTheOldest :
    let waiting := { fullLog (queued .quiet) with drain := { (queued .quiet).drain with activity := .waitLog } }
    let closed := { waiting with drain := { waiting.drain with phase := .closed } }
    State.reset.LinkReady ∧ (0x00#8).toNat = 0 ∧ 12 < (0x0D#8).toNat ∧ (1 ≤ (0x01#8).toNat ∧ (0x0C#8).toNat ≤ 12) ∧
    State.reset.drain.activity ≠ .waitLog ∧
    (waiting.LinkReady ∧ waiting.drain.activity = .waitLog ∧ waiting.PortSettled ∧
      1 ≤ min (0x0C#8).toNat (min ((waiting.slc.limits[(0 : Channel).val] - 1) / 5) waiting.log.records.length) ∧
      { waiting with log := { waiting.log with records := waiting.log.records.drop 3 } }.startable = true ∧
      { closed with log := { closed.log with records := closed.log.records.drop 3 } }.startable = false) ∧
    (record0.lines ≤ 512 ∧ record0.bytes ≤ 16384) := by decide

/-! ## Witnesses: the host port -/

theorem witness_HostRequestIsTakenOrWaits :
    State.reset.resetn = true ∧ State.reset.hpi.txn = none ∧ (beatAt State.reset 0 true).hpi.txn ≠ none ∧
    (∀ t ∈ (beatAt State.reset 0 false).hpi.txn, t.req.wr = false ∨ t.beat ≠ .waiting) ∧
    (∀ t ∈ (beatAt State.reset 0 true).hpi.txn, t.req.wr = true ∨ t.beat ≠ .waiting) := by decide

theorem witness_PassedBeatsGoToMemory :
    let s := beatAt (withWin (.idle (dfn .stall 1) 0)) 0x40 true
    s.resetn = true ∧ s.PortSettled ∧ s.hpi.txn = some (txn 0x40 true) ∧ (txn 0x40 true).beat = .waiting ∧
    4 * ((txn 0xFFFFFC true).req.adr.toNat + (txn 0xFFFFFC true).index) ≤ 0xFFFFFC ∧
    (∀ w, (s.win w).contains 0x40 = true → (s.win w).isIdle = true) ∧
    (txn 0x40 true).req.wr = true ∧ (txn 0x40 false).req.wr = false := by decide

theorem witness_CapturedBeatsAreStaged :
    let s := beatAt (capturing .stall 2 [slotOf .opened 1 0x40]) 0x5C true
    s.resetn = true ∧ s.PortSettled ∧ s.StoreWf ∧ s.hpi.txn = some (txn 0x5C true) ∧ (txn 0x5C true).beat = .waiting ∧
    (txn 0x5C true).req.wr = true ∧ 4 * ((txn 0x5C true).req.adr.toNat + (txn 0x5C true).index) = 0x5C ∧
    s.windowAt 0x5C = some 1 ∧ s.win 1 = .capturing (dfn .stall 2) 1 1 group1 ∧ 0#4 = 0#4 ∧ 8#4 ≠ 0#4 ∧
    (slotOf .opened 1 0x40).hasKey 1 1 0x40 = true ∧
    ((∀ x ∈ s.slots, x.hasKey 1 1 0x60 = false) ∧ s.slots.length < 512 ∧ 1 < (dfn .stall 2).quota) := by decide

theorem witness_FullPolicyDecidesWithoutASlot :
    let s (policy : FullPolicy) := beatAt (capturing policy 1 [slotOf .opened 1 0x40]) 0x60 true
    (∀ policy ∈ [FullPolicy.stall, .pass, .drop],
      (s policy).resetn = true ∧ (s policy).PortSettled ∧ (s policy).hpi.txn = some (txn 0x60 true) ∧
      (s policy).windowAt 0x60 = some 1 ∧ (s policy).win 1 = .capturing (dfn policy 1) 1 1 group1 ∧
      (∀ x ∈ (s policy).slots, x.hasKey 1 1 0x60 = false) ∧ (dfn policy 1).quota ≤ 1) ∧
    (txn 0x60 true).beat = .waiting ∧ (txn 0x60 true).req.wr = true ∧ 0xF#4 ≠ 0#4 ∧
    { (s .pass).mpa with interlock := some 0x60 }.interlock = some (0x60 / 32 * 32) ∧
    (s .pass).mpa.interlock ≠ some (0x60 / 32 * 32) := by decide

theorem witness_RetiringAndBeyondTheEnd :
    let s := beatAt (withWin (.retiring (dfn .stall 1) 1 0 7)) 0x40 true
    s.resetn = true ∧ s.PortSettled ∧ s.hpi.txn = some (txn 0x40 true) ∧ (txn 0x40 true).beat = .waiting ∧
    (s.windowAt 0x40 = some 1 ∧ s.win 1 = .retiring (dfn .stall 1) 1 0 7 ∧ (txn 0x40 true).req.wr = true) ∧
    (∀ wr, 0xFFFFFC < 4 * ({ txn 0xFFFFFC wr with index := 1 }.req.adr.toNat + { txn 0xFFFFFC wr with index := 1 }.index) ∧
      { txn 0xFFFFFC wr with index := 1 }.req.wr = wr) := by decide

theorem witness_ReadsTakeStagedBytes :
    let s := beatAt (capturing .stall 2 [slotOf .opened 1 0x40]) 0x40 false
    s.resetn = true ∧ s.PortSettled ∧ s.hpi.txn = some (txn 0x40 false) ∧ (txn 0x40 false).beat = .waiting ∧
    (txn 0x40 false).req.wr = false ∧ s.windowAt 0x40 = some 1 ∧ (s.win 1).isIdle = false ∧ (s.win 1).isFree = false ∧
    (∀ k : Fin 4, s.newestByte 1 (0x40 + k.val) = some ((0xAAAAAAAA#32).extractLsb' (8 * k.val) 8)) ∧
    (s.windowAt 0x44 = some 1 ∧ ∃ k : Fin 4, s.newestByte 1 (0x44 + k.val) = none) := by decide

/-- A PASS write beat at the interlock of line 40H. -/
def atInterlock (line : Option Nat) : State :=
  let s := capturing .pass 1 [slotOf .queued 0 0x40]
  { s with
    hpi := { s.hpi with txn := some { txn 0x40 true with beat := .atInterlock { window := 1, addr := 0x40, be := 0xF, wd := 5 } } }
    mpa := { s.mpa with interlock := line } }

theorem witness_PassWriteIssueUpdatesTheCopies :
    (atInterlock none).resetn = true ∧ (atInterlock none).PortSettled ∧
    (∃ t p, (atInterlock none).hpi.txn = some t ∧ t.beat = .atInterlock p ∧
      (atInterlock (some 0x40)).mpa.interlock = some (p.addr / 32 * 32) ∧
      (atInterlock none).mpa.interlock ≠ some (p.addr / 32 * 32)) ∧
    State.reset.hpi.txn = none :=
  ⟨by decide, by decide, ⟨_, _, rfl, rfl, by decide, by decide⟩, by decide⟩

theorem witness_HeldBeatsEnd :
    let room := holding (capturing .stall 2 [slotOf .opened 1 0x40]) .stall 0
    let full := holding (capturing .stall 1 [slotOf .opened 1 0x40]) .stall 0
    let retiring := holding (withWin (.retiring (dfn .stall 1) 1 0 7)) .stall 0
    let idle := holding (withWin (.idle (dfn .stall 1) 1)) .stall 0
    (room.resetn = true ∧ room.PortSettled ∧ room.hpi.txn = some (heldTxn .stall 0) ∧
      (heldTxn .stall 0).beat = .held (heldBeat .stall 0)) ∧
    (holding State.reset .retire 0).hpi.txn = some (heldTxn .retire 0) ∧
    ((heldBeat .stall 0).reason = .stall ∧ (idle.win 1).isIdle = true) ∧
    retiring.win 1 = .retiring (dfn .stall 1) 1 0 7 ∧
    (room.win 1 = .capturing (dfn .stall 2) 1 1 group1 ∧ (room.stage 1 0x60 0x01020304 0xF).isSome = true) ∧
    (full.win 1 = .capturing (dfn .stall 1) 1 1 group1 ∧ full.stage 1 0x60 0x01020304 0xF = none) ∧
    ((room.win 1).isIdle = false ∧ (retiring.win 1).isCapturing = false) ∧ State.reset.hpi.held = none := by decide

theorem witness_MemoryAnswersTheHostBeat :
    State.reset.resetn = true ∧ State.reset.mpa.port = none ∧
    (let t := { txn 0x40 true with beat := .writing };
      let s := { State.reset with
                 hpi := { State.reset.hpi with txn := some t }
                 mpa := { State.reset.mpa with port := some (.hostWrite 0x40 0xF 5) } };
      s.mpa.port = some (.hostWrite 0x40 0xF 5) ∧ s.hpi.txn = some t ∧ t.beat = .writing) ∧
    (let t := { txn 0x40 false with beat := .reading noLanes };
      let s := { State.reset with
                 hpi := { State.reset.hpi with txn := some t }
                 mpa := { State.reset.mpa with port := some (.hostRead 0x40) } };
      s.mpa.port = some (.hostRead 0x40) ∧ s.hpi.txn = some t ∧ t.beat = .reading noLanes) := by decide

theorem witness_LookupsFindTheWindowAndTheNewestByte :
    defining.SpansDisjoint ∧ (queued .closed).newestByte 1 0x43 = some 0xAA := by decide

/-! ## Witnesses: the drain engine -/

theorem witness_QuietEdgesOpenAndClose :
    let up (s : State) : State := { s with quiet := true }
    (State.reset.resetn = true ∧ State.reset.quiet = false) ∧
    ((writing .closed 0 []).lineInProgress.isSome = true ∧ (writing .closed 0 []).PortSettled) ∧
    (State.reset.drain.activity = .idle ∧ State.reset.PortSettled) ∧
    ({ queued .quiet with quiet := true }.startable = true ∧ { State.reset with quiet := true }.startable = false) ∧
    (up State.reset).quiet = true ∧ (up State.reset).drain.phase ≠ .quiet ∧ (up (queued .quiet)).drain.phase = .quiet := by decide

theorem witness_OpportunitiesBegin :
    (starving 2 0).resetn = true ∧ (starving 2 0).PortSettled ∧ State.reset.timerRuns = false ∧
    ((starving 0 5).timerRuns = true ∧ ¬(starving 0 5).config.starvationLimit.toNat ≤ 0) ∧
    ((starving 2 0).timerRuns = true ∧ (starving 2 0).config.forceEnable = false) ∧
    ((starvingForced (writing .closed 0 [])).timerRuns = true ∧
      (starvingForced (writing .closed 0 [])).config.forceEnable = true ∧
      (starvingForced (writing .closed 0 [])).lineInProgress.isSome = true) ∧
    ((starvingForced (queued .closed)).timerRuns = true ∧ (starvingForced (queued .closed)).drain.activity = .idle ∧
      { starvingForced (queued .closed) with drain := { State.reset.drain with phase := .forced } }.startable = true) ∧
    ((starvingForced paused).timerRuns = true ∧ paused.quiet = false ∧ paused.drain.activity = .held ∧
      paused.drainingHead = some (batch (.draining (drainFields 0x40)) 1, drainFields 0x40) ∧
      (drainFields 0x40).resume = some (mem1, 0x40) ∧ paused.slotAt (mem1, 0x40) = some (slotOf .draining 0 0x40)) := by decide

theorem witness_DrainStartsTheHead :
    (queued .quiet).resetn = true ∧ (queued .quiet).PortSettled ∧ State.reset.startable = false ∧
    paused.drain.activity.drains = true ∧
    ((queued .quiet).queue = [batch .queued 1] ∧ (queued .quiet).startable = true ∧ (queued .quiet).drain.activity = .idle) ∧
    ((fullLog (queued .quiet)).startable = true ∧
      32 ≤ (fullLog (queued .quiet)).log.records.length + (fullLog (queued .quiet)).log.reserved.toNat) ∧
    ((queued .quiet).log.records.length + (queued .quiet).log.reserved.toNat < 32 ∧
      (drainOrder (queued .quiet).slots (batch .queued 1).members).head? = some (mem1, 0x40) ∧
      (queued .quiet).slotAt (mem1, 0x40) = some (slotOf .queued 0 0x40)) ∧
    ((queuedEmpty .quiet).startable = true ∧
      drainOrder (queuedEmpty .quiet).slots (batch .queued 0).members = []) := by decide

theorem witness_DrainRunsGoOn :
    (writing .quiet 0 []).resetn = true ∧ (writing .quiet 0 []).mpa.port = some (.drainRun run0 0) ∧
    0 + 1 < { run0 with beats := run0.beats ++ run0.beats }.beats.length ∧
    (run0.beats.length ≤ 0 + 1 ∧ { line0 with runs := [run0] }.runs = [run0]) := by decide

theorem witness_LineEndGoesOnOrPauses :
    let s (phase : DrainPhase) (remainder : Nat) := writing phase remainder [slotOf .draining 0 0x60]
    (∀ phase ∈ [DrainPhase.closed, .quiet, .forced], ∀ remainder ∈ [3, 4],
      (s phase remainder).resetn = true ∧ (s phase remainder).mpa.port = some (.drainRun run0 0) ∧
      (s phase remainder).mpa.drainReq = none ∧ (s phase remainder).mpa.lastGrant = .drain ∧
      (s phase remainder).drain.activity = .writing line0 ∧ (s phase remainder).drain.phase = phase ∧
      (s phase remainder).queue = [batch (.draining (drainFields 0x40)) 2] ∧ (s phase remainder).slc.wipeTaken = false ∧
      lineAfter (line0.member, line0.line) (drainOrder (s phase remainder).slots [mem1]) = some (mem1, 0x60) ∧
      (s phase remainder).slotAt (mem1, 0x60) = some (slotOf .draining 0 0x60)) ∧
    run0.beats.length ≤ 0 + 1 ∧ line0.runs = [] ∧ validCount (slotOf .draining 0 0x60).cells = 4 ∧
    { (s .closed 0).slc with wipeTaken := true }.wipeTaken = true ∧
    (let last := writing .quiet 0 [];
      { last with slc := { last.slc with wipeTaken := true } }.mpa.port = some (.drainRun run0 0) ∧
      last.queue = [batch (.draining (drainFields 0x40)) 1] ∧
      lineAfter (line0.member, line0.line) (drainOrder last.slots [mem1]) = none) := by decide

theorem witness_LastLineCompletesTheBatch :
    let s := writing .closed 0 []
    s.resetn = true ∧ s.mpa.port = some (.drainRun run0 0) ∧ s.mpa.drainReq = none ∧
    run0.beats.length ≤ 0 + 1 ∧ s.drain.activity = .writing line0 ∧ line0.runs = [] ∧
    s.queue = [batch (.draining (drainFields 0x40)) 1] ∧
    (batch (.draining (drainFields 0x40)) 1).state = .draining (drainFields 0x40) ∧
    lineAfter (line0.member, line0.line) (drainOrder s.slots [mem1]) = none ∧ s.slc.wipeTaken = false := by decide

/-- Two members with lines, one of them with two. -/
theorem witness_RunsCoverTheValidWords :
    let slots := [slotOf .queued 0 0x40, slotOf .queued 0 0x60, { slotOf .queued 3 0x80 with window := 2 }]
    let ms : List Member := [mem1, { window := 2, epoch := 3 }]
    slots.Pairwise (fun x y => x.before y = true) ∧ ms.Pairwise (fun m n => m.window < n.window) ∧
    drainOrder slots ms = [(mem1, 0x40)] ++ (mem1, 0x60) :: [({ window := 2, epoch := 3 }, 0x80)] := by decide

end Sys2Proof.Tests
end

