-- ==== Sys2Proof/Proofs/Slice0/Windows.lean ====
section
/-! The window family: what WIN_DEFINE reads from its payload, what its checks decide, and its answer. -/

namespace Sys2Proof.Machine

/-! ## The payload's fields (Table 8-5) -/

theorem field_eq (w : Word) (lo len : Nat) : field w lo len = w.toNat / 2 ^ lo % 2 ^ len := by
  simp only [field, BitVec.extractLsb'_toNat, Nat.shiftRight_eq_div_pow]

/-- A field that reaches the top of its word needs no truncation. -/
theorem field_top (w : Word) (lo len : Nat) (h : lo + len = 32) : field w lo len = w.toNat / 2 ^ lo := by
  have hlt : w.toNat < 2 ^ lo * 2 ^ len := by
    rw [← Nat.pow_add, h]
    exact w.isLt
  rw [field_eq, Nat.mod_eq_of_lt (Nat.div_lt_of_lt_mul hlt)]

/-- A field that starts at the foot of its word needs no shift. -/
theorem field_bottom (w : Word) (len : Nat) : field w 0 len = w.toNat % 2 ^ len := by
  rw [field_eq, Nat.pow_zero, Nat.div_one]

/-- Table 8-5 by quotients and remainders of the payload words. -/
theorem winDefineFields_eq (w0 w1 w2 w3 w4 : Word) :
    winDefineFields w0 w1 w2 w3 w4 =
      { window := w0.toNat / 2 ^ 24
        shape := w0.toNat / 2 ^ 16 % 2 ^ 8
        policy := w0.toNat / 2 ^ 8 % 2 ^ 8
        mode := w0.toNat % 2 ^ 8
        quota := w1.toNat / 2 ^ 16
        height := w1.toNat % 2 ^ 16
        base := w2.toNat
        length := w3.toNat
        pitch := w4.toNat / 2 ^ 16
        width := w4.toNat % 2 ^ 16 } := by
  rw [winDefineFields, field_top w0 24 8 rfl, field_top w1 16 16 rfl, field_top w4 16 16 rfl, field_eq w0 16 8,
    field_eq w0 8 8, field_bottom, field_bottom, field_bottom]

namespace WinDefineFields

/-- R9: a field of a LINEAR geometry is out of range, its base aside. -/
def LinearOutOfRange (f : WinDefineFields) : Prop :=
  f.length < 4 ∨ 16777216 < f.length ∨ 0x1000000 < f.base + f.length

/-- R9: a field of a RECT geometry is out of range, its base aside. -/
def RectOutOfRange (f : WinDefineFields) : Prop :=
  f.pitch < 4 ∨ 65532 < f.pitch ∨ f.width < 4 ∨ f.pitch < f.width ∨ f.height = 0 ∨ 4096 < f.height ∨
    0xFFFFFF < f.base + (f.height - 1) * f.pitch + f.width - 1

/-- R9: the shape is unknown, or a field that it uses is out of range. -/
def GeometryOutOfRange (f : WinDefineFields) : Prop :=
  (f.shape ≠ 1 ∧ f.shape ≠ 2) ∨ 0xFFFFFF < f.base ∨ (f.shape = 1 ∧ f.LinearOutOfRange) ∨ (f.shape = 2 ∧ f.RectOutOfRange)

/-- R9: some field is out of range; `winDefineInRange_of_outOfRange` and `winDefineInRange_of_inRange` tie it to the model's check. -/
def OutOfRange (f : WinDefineFields) : Prop :=
  15 < f.window ∨ (f.shape ≠ 1 ∧ f.shape ≠ 2) ∨ (f.policy ≠ 1 ∧ f.policy ≠ 2 ∧ f.policy ≠ 3) ∨
  (f.mode ≠ 1 ∧ f.mode ≠ 2) ∨ f.quota = 0 ∨ 512 < f.quota ∨ 0xFFFFFF < f.base ∨
  (f.shape = 1 ∧ f.LinearOutOfRange) ∨ (f.shape = 2 ∧ f.RectOutOfRange)

/-- R10: a field that the shape uses is no multiple of 4. -/
def Misaligned (f : WinDefineFields) : Prop :=
  f.base % 4 ≠ 0 ∨ (f.shape = 1 ∧ f.length % 4 ≠ 0) ∨ (f.shape = 2 ∧ (f.pitch % 4 ≠ 0 ∨ f.width % 4 ≠ 0))

/-- R9: the geometry of a known shape. -/
def geometry (f : WinDefineFields) : Geometry :=
  if f.shape = 1 then .linear f.base f.length else .rect f.base f.pitch f.width f.height

/-- R3, R4: the last address of the span of a known shape. -/
def lastAddress (f : WinDefineFields) : Nat :=
  if f.shape = 1 then f.base + f.length - 1 else f.base + (f.height - 1) * f.pitch + f.width - 1

/-- R12: the definition that fields in range give, with the requester its owner. -/
def toDef (f : WinDefineFields) (owner : Channel) : WindowDef where
  owner := owner
  geometry := f.geometry
  policy := if f.policy = 1 then .stall else if f.policy = 2 then .pass else .drop
  mode := if f.mode = 1 then .strict else .span
  quota := f.quota

theorem outOfRange_iff (f : WinDefineFields) :
    f.OutOfRange ↔ 15 < f.window ∨ f.GeometryOutOfRange ∨ (f.policy ≠ 1 ∧ f.policy ≠ 2 ∧ f.policy ≠ 3) ∨
      (f.mode ≠ 1 ∧ f.mode ≠ 2) ∨ ¬(1 ≤ f.quota ∧ f.quota ≤ 512) := by
  have hquota : ¬(1 ≤ f.quota ∧ f.quota ≤ 512) ↔ f.quota = 0 ∨ 512 < f.quota := by omega
  rw [hquota]
  simp only [OutOfRange, GeometryOutOfRange, or_comm, or_assoc, or_left_comm]

theorem window_lt_of_inRange (f : WinDefineFields) (h : ¬f.OutOfRange) : f.window < 16 := by
  by_contra hw
  exact h (.inl (by omega))

theorem shape_of_inRange (f : WinDefineFields) (h : ¬f.OutOfRange) : f.shape = 1 ∨ f.shape = 2 := by
  by_contra hs
  exact h (.inr (.inl (not_or.mp hs)))

theorem geometry_span (f : WinDefineFields) : f.geometry.span = (f.base, f.lastAddress) := by
  unfold geometry lastAddress
  split <;> rfl

/-- R10, for a known shape. -/
theorem geometry_aligned (f : WinDefineFields) (h : f.shape = 1 ∨ f.shape = 2) :
    f.geometry.aligned = true ↔ ¬f.Misaligned := by
  rcases h with h | h
  · simp [geometry, Misaligned, Geometry.aligned, h]
  · simp [geometry, Misaligned, Geometry.aligned, h, and_assoc]

end WinDefineFields

/-! ## The range check (R9) -/

theorem policyOfCode_eq (n : Nat) :
    policyOfCode n =
      if n ≠ 1 ∧ n ≠ 2 ∧ n ≠ 3 then none else some (if n = 1 then .stall else if n = 2 then .pass else .drop) := by
  unfold policyOfCode
  split <;> simp_all

theorem modeOfCode_eq (n : Nat) :
    modeOfCode n = if n ≠ 1 ∧ n ≠ 2 then none else some (if n = 1 then .strict else .span) := by
  unfold modeOfCode
  split <;> simp_all

theorem geometryInRange_of_outOfRange (f : WinDefineFields) (h : f.GeometryOutOfRange) : geometryInRange f = none := by
  unfold geometryInRange
  rcases h with ⟨h1, h2⟩ | hbase | ⟨hs, hlin⟩ | ⟨hs, hrect⟩
  · simp only [h1, h2, if_false]
  · simp [Nat.not_le.mpr hbase]
  · unfold WinDefineFields.LinearOutOfRange at hlin
    rw [if_pos hs, if_neg (by omega)]
  · unfold WinDefineFields.RectOutOfRange at hrect
    rw [if_neg (by omega), if_pos hs, if_neg (by omega)]

theorem geometryInRange_of_inRange (f : WinDefineFields) (h : ¬f.GeometryOutOfRange) :
    geometryInRange f = some f.geometry := by
  simp only [WinDefineFields.GeometryOutOfRange, not_or, not_and] at h
  obtain ⟨hshape, hbase, hlin, hrect⟩ := h
  unfold geometryInRange WinDefineFields.geometry
  by_cases h1 : f.shape = 1
  · have hlin := hlin h1
    unfold WinDefineFields.LinearOutOfRange at hlin
    rw [if_pos h1, if_pos (by omega), if_pos h1]
  · have h2 : f.shape = 2 := not_not.mp (hshape h1)
    have hrect := hrect h2
    unfold WinDefineFields.RectOutOfRange at hrect
    rw [if_neg h1, if_pos h2, if_pos (by omega), if_neg h1]

/-- R9: no definition from fields of which one is out of range. -/
theorem winDefineInRange_of_outOfRange (ch : Channel) (f : WinDefineFields) (h : f.OutOfRange) :
    winDefineInRange ch f = none := by
  unfold winDefineInRange
  split
  next hwin =>
    rcases f.outOfRange_iff.mp h with hw | hgeo | hpol | hmode | hquota
    · omega
    · rw [geometryInRange_of_outOfRange f hgeo]
    · rw [policyOfCode_eq, if_pos hpol]
      cases geometryInRange f <;> rfl
    · rw [modeOfCode_eq, if_pos hmode]
      cases geometryInRange f <;> cases policyOfCode f.policy <;> rfl
    · simp only [if_neg hquota]
      split <;> rfl
  next => rfl

/-- R9: fields in range name a window and give its definition. -/
theorem winDefineInRange_of_inRange (ch : Channel) (f : WinDefineFields) (w : WindowNo) (hw : w.val = f.window)
    (h : ¬f.OutOfRange) : winDefineInRange ch f = some (w, f.toDef ch) := by
  simp only [WinDefineFields.outOfRange_iff, not_or, not_not] at h
  obtain ⟨hwin, hgeo, hpol, hmode, hquota⟩ := h
  have hlt : f.window < 16 := by omega
  have hmk : (⟨f.window, hlt⟩ : WindowNo) = w := Fin.ext hw.symm
  rw [winDefineInRange, dif_pos hlt, geometryInRange_of_inRange f hgeo, policyOfCode_eq, if_neg hpol, modeOfCode_eq,
    if_neg hmode]
  simp only [if_pos hquota, hmk, WinDefineFields.toDef]

/-! ## The state and overlap checks (R9, R11) -/

@[simp] theorem mem_allWindows (w : WindowNo) : w ∈ allWindows := by
  revert w
  decide

theorem WindowEntry.isFree_eq_false (e : WindowEntry) : e.isFree = false ↔ e ≠ .free := by
  cases e <;> simp [isFree]

/-- R11: an overlap is a window that is not FREE and whose span meets the geometry's. -/
theorem State.overlaps_eq_true (s : State) (g : Geometry) :
    s.overlaps g = true ↔
      ∃ v, ∃ x ∈ (s.win v).definition, g.span.1 ≤ x.geometry.span.2 ∧ x.geometry.span.1 ≤ g.span.2 := by
  simp only [State.overlaps, List.any_eq_true, mem_allWindows, true_and]
  refine exists_congr fun v => ?_
  cases (s.win v).definition <;> simp [spansMeet]

/-- R11, of the span that the fields give. -/
theorem State.overlaps_geometry (s : State) (f : WinDefineFields) :
    s.overlaps f.geometry = true ↔
      ∃ v, ∃ x ∈ (s.win v).definition, f.base ≤ x.geometry.span.2 ∧ x.geometry.span.1 ≤ f.lastAddress := by
  rw [State.overlaps_eq_true, f.geometry_span]

/-! ## WIN_DEFINE's answer -/

section
variable (ch : Channel) {w0 w1 w2 w3 w4 : Word} (s : State) {f : WinDefineFields} (hf : winDefineFields w0 w1 w2 w3 w4 = f)

include hf

/-- R9: any field out of range is refused first. -/
theorem requestWinDefine_of_outOfRange (h : f.OutOfRange) :
    requestWinDefine ch (.long [w0, w1, w2, w3, w4]) s = (s, .nak .range) := by
  simp only [requestWinDefine, longForm5, hf, winDefineInRange_of_outOfRange ch f h]

/-- R10 to R12: what fields in range leave to check, and what they define. -/
theorem requestWinDefine_of_inRange (w : WindowNo) (hw : w.val = f.window) (h : ¬f.OutOfRange) :
    requestWinDefine ch (.long [w0, w1, w2, w3, w4]) s =
      if !f.geometry.aligned then (s, .nak .align)
      else if !(s.win w).isFree then (s, .nak .state)
      else if s.overlaps f.geometry then (s, .nak .overlap)
      else (s.setWin w (.idle (f.toDef ch) 0), .ack) := by
  simp only [requestWinDefine, longForm5, hf, winDefineInRange_of_inRange ch f w hw h, WinDefineFields.toDef]

/-- R10: a field in range that is misaligned is refused next. -/
theorem requestWinDefine_of_misaligned (h : ¬f.OutOfRange) (ha : f.Misaligned) :
    requestWinDefine ch (.long [w0, w1, w2, w3, w4]) s = (s, .nak .align) := by
  have hal : f.geometry.aligned = false := by
    simpa [ha] using f.geometry_aligned (f.shape_of_inRange h)
  rw [requestWinDefine_of_inRange ch s hf ⟨f.window, f.window_lt_of_inRange h⟩ rfl h, hal]
  rfl

/-- R9, R11, R12: what fields in range and aligned leave to check, and what they define. -/
theorem requestWinDefine_of_aligned (w : WindowNo) (hw : w.val = f.window) (h : ¬f.OutOfRange) (ha : ¬f.Misaligned) :
    requestWinDefine ch (.long [w0, w1, w2, w3, w4]) s =
      if !(s.win w).isFree then (s, .nak .state)
      else if s.overlaps f.geometry then (s, .nak .overlap)
      else (s.setWin w (.idle (f.toDef ch) 0), .ack) := by
  rw [requestWinDefine_of_inRange ch s hf w hw h, (f.geometry_aligned (f.shape_of_inRange h)).mpr ha]
  rfl

/-- R9: an aligned definition of a window that is not FREE is refused next. -/
theorem requestWinDefine_of_not_free (w : WindowNo) (hw : w.val = f.window) (h : ¬f.OutOfRange) (ha : ¬f.Misaligned)
    (hbusy : s.win w ≠ .free) : requestWinDefine ch (.long [w0, w1, w2, w3, w4]) s = (s, .nak .state) := by
  rw [requestWinDefine_of_aligned ch s hf w hw h ha, (s.win w).isFree_eq_false.mpr hbusy]
  rfl

/-- R11, R12: what is left to check of an aligned definition of a FREE window, and what it defines. -/
theorem requestWinDefine_of_free (w : WindowNo) (hw : w.val = f.window) (h : ¬f.OutOfRange) (ha : ¬f.Misaligned)
    (hfree : s.win w = .free) :
    requestWinDefine ch (.long [w0, w1, w2, w3, w4]) s =
      if s.overlaps f.geometry then (s, .nak .overlap) else (s.setWin w (.idle (f.toDef ch) 0), .ack) := by
  rw [requestWinDefine_of_aligned ch s hf w hw h ha, hfree]
  rfl

end

/-- R144: WIN_DEFINE at a command path at rest is answered at once. -/
theorem exec_winDefine_ready (ch : Channel) (tag : Tag) {body : FrameBody} {s : State} (hs : s.LinkReady) {r : State × Reply}
    (hr : requestWinDefine ch body s = r) : exec (.winDefine ch tag body) s = .next (r.1.answered ch tag r.2) :=
  hr ▸ exec_request_ready .winDefine ch tag body _ rfl s hs

/-- Settles O33: each check of the request decides its predicate over the fields, and the fields are quotients and remainders of the
payload's words. -/
theorem winDefineIsCheckedAndTaken : Obligations.WinDefineIsCheckedAndTaken := by
  unfold Obligations.WinDefineIsCheckedAndTaken
  intro ch tag w0 w1 w2 w3 w4 s hs request window shape policy mode quota height base length pitch width outOfRange misaligned last d
  have hf := winDefineFields_eq w0 w1 w2 w3 w4
  refine ⟨fun hr => exec_winDefine_ready ch tag hs (requestWinDefine_of_outOfRange ch s hf hr),
    fun hr ha => exec_winDefine_ready ch tag hs (requestWinDefine_of_misaligned ch s hf hr ha),
    fun w hw hr ha => ⟨fun hbusy => ?state, fun hfree hmeets => ?overlap, fun hfree hclear => ?taken⟩⟩
  case state => exact exec_winDefine_ready ch tag hs (requestWinDefine_of_not_free ch s hf w hw hr ha hbusy)
  case overlap =>
    have hanswer := requestWinDefine_of_free ch s hf w hw hr ha hfree
    exact exec_winDefine_ready ch tag hs (hanswer.trans (if_pos ((s.overlaps_geometry _).mpr hmeets)))
  case taken =>
    have hanswer := requestWinDefine_of_free ch s hf w hw hr ha hfree
    refine exec_winDefine_ready ch tag hs (hanswer.trans (if_neg fun hmeets => ?_))
    obtain ⟨v, x, hx, hmeet⟩ := (s.overlaps_geometry _).mp hmeets
    exact hclear v x hx hmeet

end Sys2Proof.Machine
end

section
/-! The staging store: the bytes that a beat's strobes write, what staging a beat does with a slot and without one, and a write
beat of a CAPTURING window: without a strobe, staged, and under each full policy. -/

namespace Sys2Proof.Machine

/-! ## The bytes a beat writes (R23, R30) -/

/-- R23: the beat at slot byte `off` has the strobe set that falls on slot byte `i`; `laneAt_beatLanes` ties it to the model's
lanes. -/
def strobedAt (be : BitVec 4) (off i : Nat) : Bool := off ≤ i && be.getLsbD (i - off)

/-- R23, R104: the lane on a slot byte carries the beat's byte where the strobe is set. -/
theorem laneAt_beatLanes (wd : Word) (be : BitVec 4) (off i : Nat) :
    laneAt (beatLanes wd be) off i = if strobedAt be off i then some (byteOf wd (i - off)) else none := by
  by_cases hin : off ≤ i ∧ i - off < 4
  · simp [laneAt, beatLanes, strobedAt, hin]
  · have hout : strobedAt be off i = false := by
      rw [not_and_or] at hin
      rcases hin with hbefore | hpast
      · simp [strobedAt, hbefore]
      · simp [strobedAt, BitVec.getLsbD_of_ge be (i - off) (not_lt.mp hpast)]
    rw [hout, laneAt, dif_neg hin]
    rfl

theorem mergeCells_beatLanes (cs : Cells) (wd : Word) (be : BitVec 4) (off : Nat) :
    mergeCells cs off (beatLanes wd be) =
      Vector.ofFn fun i => if strobedAt be off i.val then some (byteOf wd (i.val - off)) else cs[i] := by
  unfold mergeCells
  congr 1
  funext i
  rw [laneAt_beatLanes]
  cases strobedAt be off i.val <;> rfl

theorem mergeCells_emptyCells (wd : Word) (be : BitVec 4) (off : Nat) :
    mergeCells emptyCells off (beatLanes wd be) =
      Vector.ofFn fun i => if strobedAt be off i.val then some (byteOf wd (i.val - off)) else none := by
  simp [mergeCells_beatLanes, emptyCells]

theorem newlyValid_beatLanes (cs : Cells) (wd : Word) (be : BitVec 4) (off : Nat) :
    newlyValid cs off (beatLanes wd be) = (List.finRange 32).countP fun i => strobedAt be off i.val && cs[i].isNone := by
  unfold newlyValid
  congr 1
  funext i
  rw [laneAt_beatLanes]
  cases strobedAt be off i.val <;> rfl

/-! ## Staging with a slot and without (R30, R31, R33) -/

theorem State.freeSlotCount_pos (s : State) : 0 < s.freeSlotCount ↔ s.slots.length < 512 := by
  simp [State.freeSlotCount, Config.slotCount]

section
variable {s : State} {w : WindowNo} {d : WindowDef} {e : Epoch} {held : Nat} {g : OpenGroup} {a : Nat} (wd : Word) (be : BitVec 4)

/-- R30: a beat whose line the open group holds is merged into its slot. -/
theorem State.stage_of_findSlot (hwin : s.win w = .capturing d e held g) {x : Slot}
    (hx : findSlot s.slots w e (lineOf a) = some x) :
    s.stage w a wd be =
      some ((s.setSlots (changeSlots (·.hasKey w e (lineOf a))
          (fun y => { y with cells := mergeCells y.cells (offsetOf a) (beatLanes wd be) }) s.slots)).setWin w
        (.capturing d e held { g with bytes := g.bytes + newlyValid x.cells (offsetOf a) (beatLanes wd be) })) := by
  simp only [State.stage, hwin, hx]

/-- R31: a beat whose line the open group does not hold is given a new slot when the pool and the quota leave one. -/
theorem State.stage_of_room (hwin : s.win w = .capturing d e held g) (hx : findSlot s.slots w e (lineOf a) = none)
    (hpool : s.slots.length < 512) (hquota : held < d.quota) :
    s.stage w a wd be =
      some ((s.setSlots (insertSlot
          { status := .opened, window := w, epoch := e, line := lineOf a,
            cells := mergeCells emptyCells (offsetOf a) (beatLanes wd be), written := false } s.slots)).setWin w
        (.capturing d e (held + 1) { g with lines := g.lines + 1, bytes := g.bytes + strobeCount be })) := by
  simp only [State.stage, hwin, hx, s.freeSlotCount_pos.mpr hpool, hquota, and_self, if_true]

/-- R33: at an empty pool or a full quota a line that the open group does not hold is not staged. -/
theorem State.stage_of_no_room (hwin : s.win w = .capturing d e held g) (hx : findSlot s.slots w e (lineOf a) = none)
    (hfull : 512 ≤ s.slots.length ∨ d.quota ≤ held) : s.stage w a wd be = none := by
  have hroom : ¬(0 < s.freeSlotCount ∧ held < d.quota) := by
    rw [s.freeSlotCount_pos]
    omega
  simp only [State.stage, hwin, hx, if_neg hroom]

/-- Staging does not read the last answer. -/
theorem State.stage_clearAnswer (s : State) (w : WindowNo) (a : Nat) :
    s.clearAnswer.stage w a wd be = (s.stage w a wd be).map State.clearAnswer := by
  have hwin : s.clearAnswer.win w = s.win w := rfl
  have hslots : s.clearAnswer.slots = s.slots := rfl
  have hfree : s.clearAnswer.freeSlotCount = s.freeSlotCount := rfl
  unfold State.stage
  rw [hwin, hslots, hfree]
  split
  · split
    · rfl
    · split <;> rfl
  · rfl

/-! ## A beat just taken, offered to its window (R106) -/

variable {t : HostTransaction}

/-- R29: a beat without a strobe is answered and stages nothing. -/
theorem State.offer_unstrobed (ht : s.hpi.txn = some t) :
    s.clearAnswer.offer d w a wd 0#4 = s.setHpi (s.hpi.afterBeat t { err := false, data := none }) := by
  rw [State.offer, if_pos rfl, s.clearAnswer_answerBeat t false none ht]

variable {be}

/-- R106: a strobed beat that the store takes is answered OKAY. -/
theorem State.offer_staged (hbe : be ≠ 0#4) {u : State} (hu : s.stage w a wd be = some u) (ht : u.hpi.txn = some t) :
    s.clearAnswer.offer d w a wd be = u.setHpi (u.hpi.afterBeat t { err := false, data := none }) := by
  rw [State.offer, if_neg hbe, State.stage_clearAnswer, hu, ← u.clearAnswer_answerBeat t false none ht]
  rfl

/-- R33: a strobed beat that the store does not take is left to the full policy. -/
theorem State.offer_unstaged (hbe : be ≠ 0#4) (hu : s.stage w a wd be = none) :
    s.clearAnswer.offer d w a wd be =
      match d.policy with
      | .stall => s.clearAnswer.hold w a wd be .stall
      | .pass => (s.clearAnswer.setBeat (.atInterlock { window := w, addr := a, be := be, wd := wd })).tryIssue
      | .drop => ((s.clearAnswer.markGroup w GroupFlags.setLost).setEvent .writeLost).answerBeat true none := by
  rw [State.offer, if_neg hbe, State.stage_clearAnswer, hu]
  rfl

/-- R109: STALL holds the beat. -/
theorem State.offer_stall (hbe : be ≠ 0#4) (hu : s.stage w a wd be = none) (ht : s.hpi.txn = some t) (hp : d.policy = .stall) :
    s.clearAnswer.offer d w a wd be =
      s.setHpi (s.hpi.withBeat t (.held { window := w, addr := a, be := be, wd := wd, reason := .stall, elapsed := 0 })) := by
  rw [State.offer_unstaged wd hbe hu, hp, ← s.clearAnswer_setBeat t _ ht]
  rfl

/-- R107, R116: PASS takes the beat to the line interlock, where it is issued if it can be. -/
theorem State.offer_pass (hbe : be ≠ 0#4) (hu : s.stage w a wd be = none) (ht : s.hpi.txn = some t) (hp : d.policy = .pass) :
    s.clearAnswer.offer d w a wd be =
      (s.setHpi (s.hpi.withBeat t (.atInterlock { window := w, addr := a, be := be, wd := wd }))).tryIssue := by
  rw [State.offer_unstaged wd hbe hu, hp, ← s.clearAnswer_setBeat t _ ht]

/-- R33: DROP loses the beat, and flag and event say so. -/
theorem State.offer_drop (hbe : be ≠ 0#4) (hu : s.stage w a wd be = none) (ht : s.hpi.txn = some t) (hp : d.policy = .drop) :
    s.clearAnswer.offer d w a wd be =
      ((s.markGroup w GroupFlags.setLost).setEvent .writeLost).setHpi (s.hpi.afterBeat t { err := true, data := none }) := by
  rw [State.offer_unstaged wd hbe hu, hp]
  exact ((s.markGroup w GroupFlags.setLost).setEvent .writeLost).clearAnswer_answerBeat t true none ht

end

/-- R116: a beat whose line the interlock names is not issued. -/
theorem State.tryIssue_of_interlock {s : State} {t : HostTransaction} {p : PassBeat} (ht : s.hpi.txn = some t)
    (hp : t.beat = .atInterlock p) (hline : s.mpa.interlock = some (lineOf p.addr)) : s.tryIssue = s := by
  simp only [State.tryIssue, ht, hp, hline, if_true]

/-! ## HOST_WRITE_BEAT and PASS_WRITE_ISSUE -/

theorem whenReleased_of_resetn (f : State → State) {s : State} (hr : s.resetn = true) : whenReleased f s = .next (f s) := by
  rw [whenReleased, if_pos hr]

theorem exec_passWriteIssue {s : State} (hr : s.resetn = true) : exec .passWriteIssue s = .next s.tryIssue.arbitrate :=
  whenReleased_of_resetn (fun s => s.tryIssue.arbitrate) hr

theorem exec_hostWriteBeat (wd : Word) (be : BitVec 4) {s : State} (hr : s.resetn = true) :
    exec (.hostWriteBeat wd be) s = .next (s.takeWriteBeat wd be) :=
  whenReleased_of_resetn (fun s => s.takeWriteBeat wd be) hr

/-- R104: the next beat of a write transaction is taken and goes its route. -/
theorem State.takeWriteBeat_waiting (wd : Word) (be : BitVec 4) {s : State} {t : HostTransaction} (ht : s.hpi.txn = some t)
    (hbeat : t.beat = .waiting) (hwr : t.req.wr = true) :
    s.takeWriteBeat wd be = (s.clearAnswer.routeWrite t.addr wd be).arbitrate := by
  simp only [State.takeWriteBeat, Hpi.nextBeat, ht, hwr, hbeat, and_self, if_true]

/-- Table 5-1: a write beat of a CAPTURING window is offered to it. -/
theorem State.routeWrite_capturing {s : State} {a : Nat} (wd : Word) (be : BitVec 4) {w : WindowNo} {d : WindowDef} {e : Epoch}
    {held : Nat} {g : OpenGroup} (ha : a ≤ 0xFFFFFC) (hat : s.windowAt a = some w) (hwin : s.win w = .capturing d e held g) :
    s.routeWrite a wd be = s.offer d w a wd be := by
  have hin : ¬Config.lastWordAddress < a := not_lt.mpr ha
  simp only [State.routeWrite, if_neg hin, hat, hwin]

section
variable {wd : Word} {be : BitVec 4} {s u : State} {t : HostTransaction} {w : WindowNo} {d : WindowDef} {e : Epoch} {held : Nat}
  {g : OpenGroup} (hr : s.resetn = true) (ht : s.hpi.txn = some t) (hbeat : t.beat = .waiting) (hwr : t.req.wr = true)
  (ha : t.addr ≤ 0xFFFFFC) (hat : s.windowAt t.addr = some w) (hwin : s.win w = .capturing d e held g)
  (hu : s.clearAnswer.offer d w t.addr wd be = u)

include hr ht hbeat hwr ha hat hwin hu

/-- R105, R106: a write beat of a CAPTURING window is what the window makes of it, then the arbiter's grant. -/
theorem exec_hostWriteBeat_capturing : exec (.hostWriteBeat wd be) s = .next u.arbitrate := by
  have hroute : s.clearAnswer.routeWrite t.addr wd be = u :=
    (State.routeWrite_capturing (s := s.clearAnswer) wd be ha hat hwin).trans hu
  rw [exec_hostWriteBeat wd be hr, State.takeWriteBeat_waiting wd be ht hbeat hwr, hroute]

/-- R115: where the port is left settled there is nothing to grant. -/
theorem exec_hostWriteBeat_settled (hport : u.PortSettled) : exec (.hostWriteBeat wd be) s = .next u := by
  rw [exec_hostWriteBeat_capturing hr ht hbeat hwr ha hat hwin hu, u.arbitrate_settled hport]

end

/-- Settles O45: the beat without a strobe, the merge into the slot that key lookup finds, and the new slot. -/
theorem capturedBeatsAreStaged : Obligations.CapturedBeatsAreStaged := by
  unfold Obligations.CapturedBeatsAreStaged
  intro wd be t w s hr hport hstore ht hbeat hwr a line okay strobed byte ha hat d e held g hwin
  have hexec {u : State} (hu : s.clearAnswer.offer d w a wd be = u) (hsettled : u.PortSettled) :
      exec (.hostWriteBeat wd be) s = .next u :=
    exec_hostWriteBeat_settled hr ht hbeat hwr ha hat hwin hu hsettled
  refine ⟨fun hzero => ?unstrobed, fun hbe x hx hkey => ?merged, fun hbe hnone hpool hquota => ?allocated⟩
  case unstrobed =>
    subst hzero
    exact hexec (State.offer_unstrobed wd ht) hport
  case merged =>
    have hstage := State.stage_of_findSlot wd be hwin (findSlot_of_mem s.slots hstore.1 x hx w e line hkey)
    simp only [mergeCells_beatLanes, newlyValid_beatLanes] at hstage
    exact hexec (State.offer_staged wd hbe hstage ht) hport
  case allocated =>
    have hstage := State.stage_of_room wd be hwin ((findSlot_none s.slots w e line).mpr hnone) hpool hquota
    rw [mergeCells_emptyCells] at hstage
    exact ⟨_, insertSlot_perm _ s.slots, hexec (State.offer_staged wd hbe hstage ht) hport⟩

/-- Settles O46: staging finds no slot, and each policy then does with the beat what it says. -/
theorem fullPolicyDecidesWithoutASlot : Obligations.FullPolicyDecidesWithoutASlot := by
  unfold Obligations.FullPolicyDecidesWithoutASlot
  intro wd be t w s hr hport ht hbeat hwr a ha hat hbe d e held g hwin hnone hfull
  have hstage : s.stage w a wd be = none := State.stage_of_no_room wd be hwin ((findSlot_none s.slots w e _).mpr hnone) hfull
  have hexec {u : State} (hu : s.clearAnswer.offer d w a wd be = u) (hsettled : u.PortSettled) :
      exec (.hostWriteBeat wd be) s = .next u :=
    exec_hostWriteBeat_settled hr ht hbeat hwr ha hat hwin hu hsettled
  refine ⟨fun hp => ?stall, fun hp => ?pass, fun hp => ?drop⟩
  case stall => exact hexec (State.offer_stall wd hbe hstage ht hp) hport
  case pass =>
    intro waits
    have htaken : exec (.hostWriteBeat wd be) s = .next waits.tryIssue.arbitrate :=
      exec_hostWriteBeat_capturing hr ht hbeat hwr ha hat hwin (State.offer_pass wd hbe hstage ht hp)
    refine ⟨fun hline => ?_, fun _ => ⟨waits.tryIssue.arbitrate, exec_passWriteIssue hr, htaken⟩⟩
    have hwaits : waits.tryIssue = waits := State.tryIssue_of_interlock rfl rfl hline
    rw [htaken, hwaits, State.arbitrate_settled waits hport]
  case drop =>
    have hdropped := hexec (State.offer_drop wd hbe hstage ht hp) hport
    rw [State.markGroup, hwin] at hdropped
    exact hdropped

end Sys2Proof.Machine
end

section
/-! Batches and the commit queue: what WIN_ABORT discards, and the checks of WIN_ABORT, CLOSE and CANCEL in their order. -/

namespace Sys2Proof.Machine

/-- R144: a request of a kind other than WIPE and RESYNC, at a command path at rest, is answered at once with what its function
replies. -/
theorem exec_request_of_reply (k : Kind) (ch : Channel) (tag : Tag) {body : FrameBody} {f : State → State × Reply}
    (hf : requestOf k ch body = some f) {s : State} (hs : s.LinkReady) {r : State × Reply} (hr : f s = r) :
    exec (commandOf k ch tag body) s = .next (r.1.answered ch tag r.2) :=
  hr ▸ exec_request_ready k ch tag body f hf s hs

/-! ## Windows named by a request -/

/-- R8: an entry is another channel's when it has a definition whose owner is not the requester. -/
theorem WindowEntry.ownedByOther_iff (ch : Channel) (e : WindowEntry) :
    e.ownedByOther ch = true ↔ ∃ d ∈ e.definition, d.owner ≠ ch := by
  unfold ownedByOther
  cases e.definition <;> simp

theorem WindowEntry.ownedByOther_eq_false (ch : Channel) (e : WindowEntry) :
    e.ownedByOther ch = false ↔ ∀ d ∈ e.definition, d.owner = ch := by
  rw [Bool.eq_false_iff, ne_eq, ownedByOther_iff]
  push Not
  rfl

/-- R62: an argument above 15 names no window. -/
theorem windowForm_of_gt {a : Byte} (h : 15 < a.toNat) (s : State) (k : WindowNo → State × Reply) :
    windowForm (.short a) s k = (s, .nak .range) := by
  rw [windowForm, shortForm, windowArgument, dif_neg (by omega)]

theorem windowForm_of_eq {a : Byte} {w : WindowNo} (h : w.val = a.toNat) (s : State) (k : WindowNo → State × Reply) :
    windowForm (.short a) s k = k w := by
  have hmk : (⟨a.toNat, h ▸ w.isLt⟩ : WindowNo) = w := Fin.ext h.symm
  rw [windowForm, shortForm, windowArgument, dif_pos (h ▸ w.isLt), hmk]

/-! ## WIN_ABORT -/

/-- A change of the table that leaves every entry but one is the writing of that entry. -/
theorem State.mapWindows_eq_setWin (s : State) (f : WindowNo → WindowEntry → WindowEntry) (w : WindowNo)
    (h : ∀ v, v ≠ w → f v (s.win v) = s.win v) : s.mapWindows f = s.setWin w (f w (s.win w)) := by
  refine congrArg s.setWindows (State.windows_ext (s := s.mapWindows f) (t := s.setWin w (f w (s.win w))) fun v => ?_)
  rw [State.mapWindows_win, State.setWin_win]
  by_cases hv : v = w
  · rw [if_pos hv, hv]
  · rw [if_neg hv, h v hv]

theorem State.setWin_setWin (s : State) (w : WindowNo) (e e' : WindowEntry) : (s.setWin w e).setWin w e' = s.setWin w e' :=
  congrArg s.setWindows (Vector.set_set ..)

@[simp] theorem WindowEntry.dropHeld_zero (e : WindowEntry) : e.dropHeld 0 = e := by cases e <;> rfl

/-- The OPEN slots of a window, counted again by their window. -/
theorem countP_openOf_window (slots : List Slot) (w v : WindowNo) :
    slots.countP (fun x => Slot.openOf w x && x.window = v) = if v = w then slots.countP (Slot.openOf w) else 0 := by
  split
  next hv =>
    refine List.countP_congr fun x _ => ?_
    simp [Slot.openOf, hv]
  next hv =>
    refine List.countP_eq_zero.mpr fun x _ hx => hv ?_
    simp only [Slot.openOf, Bool.and_eq_true, decide_eq_true_eq] at hx
    exact hx.2.symm.trans hx.1.2

/-- R42, R44: freeing the OPEN slots of a window leaves the count of every other window. -/
theorem State.freeSlots_openOf (s : State) (w : WindowNo) :
    s.freeSlots (Slot.openOf w) =
      (s.setSlots (s.slots.filter fun x => !Slot.openOf w x)).setWin w ((s.win w).dropHeld (s.freedCount (Slot.openOf w))) := by
  unfold State.freeSlots
  simp only [countP_openOf_window]
  rw [State.mapWindows_eq_setWin _ _ w fun v hv => by rw [if_neg hv, WindowEntry.dropHeld_zero], if_pos rfl]
  rfl

/-- R63: the open group of a CAPTURING window discarded: its slots freed, a new group open at the advanced epoch. -/
theorem State.abortGroup_capturing {s : State} {w : WindowNo} {d : WindowDef} {e : Epoch} {held : Nat} {g : OpenGroup}
    (hwin : s.win w = .capturing d e held g) :
    s.abortGroup w =
      (s.setSlots (s.slots.filter fun x => !Slot.openOf w x)).setWin w
        (.capturing d (s.nextEpoch w e) (held - s.freedCount (Slot.openOf w)) newGroup) := by
  have hentry : (s.freeSlots (Slot.openOf w)).win w = .capturing d e (held - s.freedCount (Slot.openOf w)) g := by
    rw [State.freeSlots_openOf, State.setWin_win, if_pos rfl, hwin]
    rfl
  simp only [State.abortGroup, hentry]
  rw [State.freeSlots_openOf, State.setWin_setWin]
  rfl

theorem exec_heldBeatRetry {s : State} (hr : s.resetn = true) : exec .heldBeatRetry s = .next s.retryHeld.arbitrate :=
  whenReleased_of_resetn (fun s => s.retryHeld.arbitrate) hr

/-- R63.6: the retry that a freeing makes due is HELD_BEAT_RETRY, and with nothing freed nothing happens. -/
theorem State.execAll_retryAfter {s : State} (hr : s.resetn = true) (hport : s.PortSettled) (freed : Nat) :
    execAll (if 0 < freed then [.heldBeatRetry] else []) s = .next (s.retryAfter freed).arbitrate := by
  unfold State.retryAfter
  split
  · simp only [execAll, exec_heldBeatRetry hr]
  · rw [s.arbitrate_settled hport]
    rfl

section
variable (ch : Channel) {a : Byte} {w : WindowNo} (s : State)

/-- R62: WIN_ABORT with an argument above 15. -/
theorem requestWinAbort_of_gt (h : 15 < a.toNat) : requestWinAbort ch (.short a) s = (s, .nak .range) :=
  windowForm_of_gt h s _

variable (hw : w.val = a.toNat)
include hw

/-- R62: WIN_ABORT of another channel's window. -/
theorem requestWinAbort_of_foreign (h : ∃ d ∈ (s.win w).definition, d.owner ≠ ch) :
    requestWinAbort ch (.short a) s = (s, .nak .owner) := by
  rw [requestWinAbort, windowForm_of_eq hw, if_pos (((s.win w).ownedByOther_iff ch).mpr h)]

/-- R62: WIN_ABORT of a window that is FREE or its own channel's. -/
theorem requestWinAbort_of_owned (h : ∀ d ∈ (s.win w).definition, d.owner = ch) :
    requestWinAbort ch (.short a) s =
      if !(s.win w).isCapturing then (s, .nak .state)
      else (((s.abortGroup w).retryAfter (s.freedCount (Slot.openOf w))).arbitrate, .ack) := by
  rw [requestWinAbort, windowForm_of_eq hw, ((s.win w).ownedByOther_eq_false ch).mpr h]
  rfl

end

/-- Settles O37: each refusal is one branch of the request, and the accepted effect is the group discarded and then the retry. -/
theorem winAbortDiscardsTheOpenGroup : Obligations.WinAbortDiscardsTheOpenGroup := by
  unfold Obligations.WinAbortDiscardsTheOpenGroup
  intro ch tag a s hs
  have hexec {r : State × Reply} (hr : requestWinAbort ch (.short a) s = r) :
      exec (.winAbort ch tag (.short a)) s = .next (r.1.answered ch tag r.2) :=
    exec_request_of_reply .winAbort ch tag rfl hs hr
  refine ⟨fun h => hexec (requestWinAbort_of_gt ch s h), fun w hw =>
    ⟨fun h => hexec (requestWinAbort_of_foreign ch s hw h), fun hown hcap => ?state, fun d e held g hwin hd hport => ?taken⟩⟩
  case state =>
    have hanswer := requestWinAbort_of_owned ch s hw hown
    rw [hcap] at hanswer
    exact hexec hanswer
  case taken =>
    intro freed t
    have hown : ∀ x ∈ (s.win w).definition, x.owner = ch := by
      rw [hwin]
      rintro x ⟨⟩
      exact hd
    have hanswer := requestWinAbort_of_owned ch s hw hown
    have ht : s.abortGroup w = t := State.abortGroup_capturing hwin
    rw [hwin, ht] at hanswer
    exact ⟨_, State.execAll_retryAfter (s := t) hs.1 hport freed, hexec hanswer⟩

/-! ## CLOSE -/

/-- The low sixteen bits of a payload word are zero. -/
theorem extractLsb'_low_eq_zero (w : Word) : w.extractLsb' 0 16 = 0#16 ↔ w.toNat % 2 ^ 16 = 0 := by
  rw [← BitVec.toNat_inj, BitVec.extractLsb'_toNat, Nat.shiftRight_zero]
  rfl

/-- R51: the RANGE failures of a CLOSE payload. -/
theorem closeFields_of_outOfRange {w0 : Word} (h : w0.toNat % 2 ^ 16 = 0 ∨ w0.toNat / 2 ^ 17 ≠ 0) : closeFields w0 = none := by
  refine if_neg fun ⟨hreserved, hmask⟩ => ?_
  rw [field_top w0 17 15 rfl] at hreserved
  rw [ne_eq, extractLsb'_low_eq_zero] at hmask
  exact h.elim hmask (fun hr => hr hreserved)

theorem closeFields_of_inRange {w0 : Word} (h : ¬(w0.toNat % 2 ^ 16 = 0 ∨ w0.toNat / 2 ^ 17 ≠ 0)) :
    closeFields w0 = some (w0.getLsbD 16, w0.extractLsb' 0 16) := by
  obtain ⟨hmask, hreserved⟩ := not_or.mp h
  have hfield : field w0 17 15 = 0 := by
    rw [field_top w0 17 15 rfl]
    exact not_not.mp hreserved
  exact if_pos ⟨hfield, mt (extractLsb'_low_eq_zero w0).mp hmask⟩

/-- R51: the windows that a CLOSE payload names. -/
def closeWindows (w0 : Word) : List WindowNo := maskWindows (w0.extractLsb' 0 16)

/-- Table 8-6: bit w of the payload names window w. -/
theorem closeWindows_eq (w0 : Word) : closeWindows w0 = allWindows.filter fun w => w0.getLsbD w.val := by
  unfold closeWindows maskWindows
  congr 1
  funext w
  simp [w.isLt]

theorem mem_closeWindows (w0 : Word) (w : WindowNo) : w ∈ closeWindows w0 ↔ w0.getLsbD w.val = true := by
  simp [closeWindows_eq]

/-- R51: some window of the mask is another channel's. -/
theorem any_ownedByOther_iff (s : State) (ch : Channel) (w0 : Word) :
    ((closeWindows w0).any fun w => (s.win w).ownedByOther ch) = true ↔
      ∃ w : WindowNo, w0.getLsbD w.val = true ∧ ∃ d ∈ (s.win w).definition, d.owner ≠ ch := by
  simp only [List.any_eq_true, mem_closeWindows, WindowEntry.ownedByOther_iff]

/-- R51: some window of the mask is not CAPTURING. -/
theorem any_not_isCapturing_iff (s : State) (w0 : Word) :
    ((closeWindows w0).any fun w => !(s.win w).isCapturing) = true ↔
      ∃ w : WindowNo, w0.getLsbD w.val = true ∧ (s.win w).isCapturing = false := by
  simp only [List.any_eq_true, mem_closeWindows, Bool.not_eq_true']

/-- R52: some window of the list has drain mode STRICT. -/
theorem State.anyStrict_iff (s : State) (ws : List WindowNo) :
    s.anyStrict ws = true ↔ ∃ w ∈ ws, ∃ d ∈ (s.win w).definition, d.mode = .strict := by
  simp only [State.anyStrict, List.any_eq_true]
  refine exists_congr fun w => and_congr_right fun _ => ?_
  cases (s.win w).definition <;> simp

/-- R52: the byte count of an entry's open group; 0 for an entry without one. -/
def WindowEntry.openBytes : WindowEntry → Nat
  | .capturing _ _ _ g => g.bytes
  | _ => 0

/-- R52: the bytes of the open groups of the windows that satisfy `p`, summed window by window. -/
theorem State.groupBytes_closingGroups (s : State) (p : WindowNo → Bool) (ws : List WindowNo) :
    groupBytes (s.closingGroups (ws.filter p)) = (ws.map fun w => if p w then (s.win w).openBytes else 0).sum := by
  induction ws with
  | nil => rfl
  | cons w ws ih =>
    rw [List.map_cons, List.sum_cons, ← ih]
    by_cases hp : p w = true
    · rw [List.filter_cons_of_pos hp, if_pos hp]
      cases hwin : s.win w <;> simp [State.closingGroups, groupBytes, WindowEntry.openGroup, WindowEntry.openBytes, hwin]
    · rw [List.filter_cons_of_neg hp, if_neg hp, Nat.zero_add]

/-- R51, R52: a CLOSE whose mask names at least one STRICT window is oversize above the interval budget. -/
theorem closeOversize_iff (s : State) (w0 : Word) :
    (s.anyStrict (closeWindows w0) &&
        decide (s.config.budget.toNat * 64 < groupBytes (s.closingGroups (closeWindows w0)))) = true ↔
      (∃ w : WindowNo, w0.getLsbD w.val = true ∧ ∃ d ∈ (s.win w).definition, d.mode = .strict) ∧
        s.config.budget.toNat * 64 < (allWindows.map fun w => if w0.getLsbD w.val then (s.win w).openBytes else 0).sum := by
  rw [Bool.and_eq_true, decide_eq_true_eq, State.anyStrict_iff]
  simp only [mem_closeWindows]
  rw [closeWindows_eq, State.groupBytes_closingGroups]

/-- R51: RANGE, before any window is looked at. -/
theorem requestClose_of_outOfRange (ch : Channel) {w0 : Word} (s : State)
    (h : w0.toNat % 2 ^ 16 = 0 ∨ w0.toNat / 2 ^ 17 ≠ 0) : requestClose ch (.long [w0]) s = (s, .nak .range) := by
  simp only [requestClose, longForm1, closeFields_of_outOfRange h]

/-- R51 to R54: the checks that a CLOSE in range has left, and its effect. -/
theorem requestClose_of_inRange (ch : Channel) {w0 : Word} (s : State) (h : ¬(w0.toNat % 2 ^ 16 = 0 ∨ w0.toNat / 2 ^ 17 ≠ 0)) :
    requestClose ch (.long [w0]) s =
      if (closeWindows w0).any fun w => (s.win w).ownedByOther ch then (s, .nak .owner)
      else if (closeWindows w0).any fun w => !(s.win w).isCapturing then (s, .nak .state)
      else if 8 ≤ s.queue.length then (s, .nak .full)
      else if s.anyStrict (closeWindows w0) &&
          decide (s.config.budget.toNat * 64 < groupBytes (s.closingGroups (closeWindows w0))) then (s, .nak .oversize)
      else
        (if s.queue = [] then (s.closeBatch (w0.getLsbD 16) (closeWindows w0)).queueFilled
          else s.closeBatch (w0.getLsbD 16) (closeWindows w0), .data [0#16 ++ s.nextSeq]) := by
  simp only [requestClose, longForm1, closeFields_of_inRange h]
  rfl

/-- Settles O38: each check of the request decides its condition over the windows of the mask, in the request's order. -/
theorem closeIsChecked : Obligations.CloseIsChecked := by
  unfold Obligations.CloseIsChecked
  intro ch tag w0 s hs request outOfRange foreign notCapturing full bytes oversize
  have hrefused {why : Reason} (hr : requestClose ch (.long [w0]) s = (s, .nak why)) :
      exec request s = .next (s.answered ch tag (.nak why)) :=
    exec_request_of_reply .close ch tag rfl hs hr
  have hforeign : _ ↔ foreign := any_ownedByOther_iff s ch w0
  have hstate : _ ↔ notCapturing := any_not_isCapturing_iff s w0
  have hover : _ ↔ oversize := closeOversize_iff s w0
  refine ⟨fun hr => hrefused (requestClose_of_outOfRange ch s hr), fun hr ho => hrefused ?owner, fun hr ho hc => hrefused ?state,
    fun hr ho hc hf => hrefused ?full, fun hr ho hc hf hv => hrefused ?oversize⟩
  case owner => rw [requestClose_of_inRange ch s hr, if_pos (hforeign.mpr ho)]
  case state => rw [requestClose_of_inRange ch s hr, if_neg (mt hforeign.mp ho), if_pos (hstate.mpr hc)]
  case full =>
    rw [requestClose_of_inRange ch s hr, if_neg (mt hforeign.mp ho), if_neg (mt hstate.mp hc), if_pos hf]
  case oversize =>
    rw [requestClose_of_inRange ch s hr, if_neg (mt hforeign.mp ho), if_neg (mt hstate.mp hc), if_neg hf,
      if_pos (hover.mpr hv)]

/-! ## CANCEL -/

/-- R65: the RANGE failures of a CANCEL payload. -/
theorem cancelField_of_outOfRange {w0 : Word} (h : w0.toNat % 2 ^ 16 = 0 ∨ w0.toNat / 2 ^ 16 ≠ 0) : cancelField w0 = none := by
  refine if_neg fun ⟨hreserved, hseq⟩ => ?_
  rw [field_top w0 16 16 rfl] at hreserved
  rw [ne_eq, extractLsb'_low_eq_zero] at hseq
  exact h.elim hseq (fun hr => hr hreserved)

/-- R65: a CANCEL payload in range is the sequence number it names. -/
theorem cancelField_of_inRange {w0 : Word} (h : ¬(w0.toNat % 2 ^ 16 = 0 ∨ w0.toNat / 2 ^ 16 ≠ 0)) :
    ∃ q : Sequence, cancelField w0 = some q ∧ q.toNat = w0.toNat := by
  obtain ⟨hseq, hreserved⟩ := not_or.mp h
  have hfield : field w0 16 16 = 0 := by
    rw [field_top w0 16 16 rfl]
    exact not_not.mp hreserved
  refine ⟨w0.extractLsb' 0 16, if_pos ⟨hfield, mt (extractLsb'_low_eq_zero w0).mp hseq⟩, ?_⟩
  rw [BitVec.extractLsb'_toNat, Nat.shiftRight_zero]
  omega

/-- R120: no entry is free when records and reservation fill the log. -/
theorem CompletionLog.freeEntries_eq_zero (l : CompletionLog) : l.freeEntries = 0 ↔ 32 ≤ l.records.length + l.reserved.toNat := by
  unfold freeEntries
  cases l.reserved <;> simp [Config.logCapacity] <;> omega

/-- R65: the batch a CANCEL names, by the sequence number as a number. -/
theorem find?_seq_eq (queue : List BatchRecord) (q : Sequence) (n : Nat) (h : q.toNat = n) :
    queue.find? (·.seq = q) = queue.find? fun x => x.seq.toNat = n := by
  congr 1
  funext x
  simp only [← BitVec.toNat_inj, h]

section
variable {w0 : Word} (s : State)

/-- R65: RANGE, before the log and the queue are looked at. -/
theorem requestCancel_of_outOfRange (h : w0.toNat % 2 ^ 16 = 0 ∨ w0.toNat / 2 ^ 16 ≠ 0) :
    requestCancel (.long [w0]) s = (s, .nak .range) := by
  simp only [requestCancel, longForm1, cancelField_of_outOfRange h]

variable (h : ¬(w0.toNat % 2 ^ 16 = 0 ∨ w0.toNat / 2 ^ 16 ≠ 0))
include h

/-- R65: FULL, before the queue is looked at. -/
theorem requestCancel_of_full (hf : 32 ≤ s.log.records.length + s.log.reserved.toNat) :
    requestCancel (.long [w0]) s = (s, .nak .full) := by
  obtain ⟨q, hq, -⟩ := cancelField_of_inRange h
  simp only [requestCancel, longForm1, hq, if_pos (s.log.freeEntries_eq_zero.mpr hf)]

variable (hf : ¬32 ≤ s.log.records.length + s.log.reserved.toNat)
include hf

/-- R65, R66: the batch that a CANCEL names is removed unless it is DRAINING. -/
theorem requestCancel_of_found {r : BatchRecord} (hr : s.queue.find? (fun x => x.seq.toNat = w0.toNat) = some r) :
    requestCancel (.long [w0]) s = if r.isDraining then (s, .nak .busy) else (s.cancelBatch r, .ack) := by
  obtain ⟨q, hq, hn⟩ := cancelField_of_inRange h
  simp only [requestCancel, longForm1, hq, if_neg (mt s.log.freeEntries_eq_zero.mp hf), find?_seq_eq s.queue q _ hn, hr]

/-- R65: no batch in the queue has the sequence number. -/
theorem requestCancel_of_absent (hr : s.queue.find? (fun x => x.seq.toNat = w0.toNat) = none) :
    requestCancel (.long [w0]) s = (s, .nak .notFound) := by
  obtain ⟨q, hq, hn⟩ := cancelField_of_inRange h
  simp only [requestCancel, longForm1, hq, if_neg (mt s.log.freeEntries_eq_zero.mp hf), find?_seq_eq s.queue q _ hn, hr]

end

/-- Settles O40: the log is tested before the queue, and the lookup by sequence number decides between BUSY and NOTFOUND. -/
theorem cancelIsChecked : Obligations.CancelIsChecked := by
  unfold Obligations.CancelIsChecked
  intro ch tag w0 s hs request outOfRange full
  have hrefused {why : Reason} (hr : requestCancel (.long [w0]) s = (s, .nak why)) :
      exec request s = .next (s.answered ch tag (.nak why)) :=
    exec_request_of_reply .cancel ch tag rfl hs hr
  refine ⟨fun hr => hrefused (requestCancel_of_outOfRange s hr), fun hr hf => hrefused (requestCancel_of_full s hr hf),
    fun r hfind hr hf hbusy => hrefused ?busy, fun hr hf hnone => hrefused (requestCancel_of_absent s hr hf ?absent)⟩
  case busy => rw [requestCancel_of_found s hr hf hfind, if_pos hbusy]
  case absent => simpa using hnone

end Sys2Proof.Machine
end

section
/-! The signatures and the completion log: the reflected CRC-32C register against the stated one, the stream of a line, LOG_READ and the
layout of its records, and the requests SET_LIMIT, SIG_RESET and EVENT_ACK. -/

namespace Sys2Proof.Machine

/-! ## The requests for limits, the chain signature and events (R132, R149, R173) -/

/-- R149: a return limit out of range. -/
theorem requestSetLimit_of_outOfRange (ch : Channel) {a : Byte} (s : State) (h : a.toNat < 8 ∨ 64 < a.toNat) :
    requestSetLimit ch (.short a) s = (s, .nak .range) :=
  if_pos h

/-- R149: a return limit of 8 to 64 words. -/
theorem requestSetLimit_of_inRange (ch : Channel) {a : Byte} (s : State) (hlow : 8 ≤ a.toNat) (hhigh : a.toNat ≤ 64) :
    requestSetLimit ch (.short a) s = (s.setSlc { s.slc with limits := s.slc.limits.set ch.val a.toNat ch.isLt }, .ack) :=
  if_neg (by omega)

/-- R157, R173: the bits of an EVENT_ACK payload that name no event are its upper 21. -/
theorem eventAckField_eq (w : Word) : eventAckField w = if w.toNat / 2 ^ 11 = 0 then some (w.extractLsb' 0 11) else none := by
  rw [eventAckField, field_top w 11 21 rfl]

/-- R173: an EVENT_ACK that names a bit of no event. -/
theorem requestEventAck_of_outOfRange {w : Word} (s : State) (h : w.toNat / 2 ^ 11 ≠ 0) :
    requestEventAck (.long [w]) s = (s, .nak .range) := by
  simp only [requestEventAck, longForm1, eventAckField_eq, if_neg h]

/-- R173: an EVENT_ACK that names events alone. -/
theorem requestEventAck_of_inRange {w : Word} (s : State) (h : w.toNat / 2 ^ 11 = 0) :
    requestEventAck (.long [w]) s = (s.setEvents (EventSet.without s.events (w.extractLsb' 0 11)), .ack) := by
  simp only [requestEventAck, longForm1, eventAckField_eq, if_pos h]

theorem Event.bit_lt (e : Event) : e.bit < 11 := by cases e <;> decide

/-- R173: exactly the events that the payload names become not pending. -/
theorem EventSet.has_without_extractLsb' (events : EventSet) (w : Word) (e : Event) :
    EventSet.has (EventSet.without events (w.extractLsb' 0 11)) e = (EventSet.has events e && !w.getLsbD e.bit) := by
  simp [EventSet.has, EventSet.without, e.bit_lt]

/-- Settles O29: one branch of its request for each clause. -/
theorem limitSignatureAndEventRequests : Obligations.LimitSignatureAndEventRequests := by
  unfold Obligations.LimitSignatureAndEventRequests
  intro ch tag a w s hs
  have hlimit {r : State × Reply} (hr : requestSetLimit ch (.short a) s = r) :
      exec (.setLimit ch tag (.short a)) s = .next (r.1.answered ch tag r.2) :=
    exec_request_of_reply .setLimit ch tag rfl hs hr
  have hack {r : State × Reply} (hr : requestEventAck (.long [w]) s = r) :
      exec (.eventAck ch tag (.long [w])) s = .next (r.1.answered ch tag r.2) :=
    exec_request_of_reply .eventAck ch tag rfl hs hr
  have hreset : requestSigReset (.short a) s = (s.setChain 0, .ack) := rfl
  refine ⟨fun h => hlimit (requestSetLimit_of_outOfRange ch s h),
    fun hlow hhigh => hlimit (requestSetLimit_of_inRange ch s hlow hhigh),
    exec_request_of_reply .sigReset ch tag rfl hs hreset, fun h => hack (requestEventAck_of_outOfRange s h), fun h =>
      ⟨_, hack (requestEventAck_of_inRange s h), EventSet.has_without_extractLsb' s.events w⟩⟩

/-! ## CRC-32C, reflected and stated (R129)

The model keeps the register with its bits in reverse and adds a whole byte before its eight shifts; the rule shifts toward the most
significant bit and compares one bit of the byte at a time. -/

/-- R129: one bit of the stated register, for bit `k` of the byte `b`. -/
def statedBit (b : Byte) (c : BitVec 32) (k : Nat) : BitVec 32 :=
  if c.msb != b.getLsbD k then (c <<< 1) ^^^ 0x1EDC6F41#32 else c <<< 1

/-- R129: one byte of the stated register, least significant bit first. -/
def statedByte (c : BitVec 32) (b : Byte) : BitVec 32 := (List.range 8).foldl (statedBit b) c

theorem reverse_shiftLeft_one {n : Nat} (c : BitVec n) : (c <<< 1).reverse = c.reverse >>> 1 := by
  ext i hi
  simp only [BitVec.getElem_reverse, BitVec.getElem_ushiftRight, BitVec.getLsbD_reverse, BitVec.getMsbD_shiftLeft, Nat.add_comm]

theorem reverse_xor {n : Nat} (x y : BitVec n) : (x ^^^ y).reverse = x.reverse ^^^ y.reverse := by
  ext i hi
  simp only [BitVec.getElem_reverse, BitVec.getElem_xor, BitVec.getMsbD_xor]

/-- One shift of the reflected register, with the bits of the byte not yet shifted out still added to it, is one stated bit. -/
theorem crc32cBit_reverse (b : Byte) (c : BitVec 32) (k : Nat) :
    crc32cBit (c.reverse ^^^ (b >>> k).setWidth 32) = (statedBit b c k).reverse ^^^ (b >>> (k + 1)).setWidth 32 := by
  have hlow : (c.reverse ^^^ (b >>> k).setWidth 32).getLsbD 0 = (c.msb != b.getLsbD k) := by
    rw [BitVec.getLsbD_xor, BitVec.getLsbD_reverse, BitVec.getLsbD_setWidth, BitVec.getLsbD_ushiftRight]
    simp [BitVec.msb]
  have hrest : (b >>> k).setWidth 32 >>> 1 = (b >>> (k + 1)).setWidth 32 := by
    ext i hi
    simp [BitVec.getLsbD_ushiftRight, Nat.add_assoc]
  have hpoly : (0x1EDC6F41#32).reverse = 0x82F63B78#32 := by decide +kernel
  unfold crc32cBit statedBit
  rw [hlow, BitVec.ushiftRight_xor_distrib, hrest]
  split
  · rw [reverse_xor, reverse_shiftLeft_one, hpoly, BitVec.xor_assoc, BitVec.xor_assoc, BitVec.xor_comm (0x82F63B78#32)]
  · rw [reverse_shiftLeft_one]

theorem crc32cBits_reverse (b : Byte) (c : BitVec 32) (n : Nat) :
    (List.range n).foldl (fun c _ => crc32cBit c) (c.reverse ^^^ b.setWidth 32) =
      ((List.range n).foldl (statedBit b) c).reverse ^^^ (b >>> n).setWidth 32 := by
  induction n with
  | zero => simp
  | succ n ih =>
    rw [List.range_succ, List.foldl_append, List.foldl_append, ih]
    exact crc32cBit_reverse b _ n

/-- After its eight shifts nothing of the byte is left in the register. -/
theorem crc32cByte_reverse (c : BitVec 32) (b : Byte) : crc32cByte c.reverse b = (statedByte c b).reverse := by
  have hgone : (b >>> 8).setWidth 32 = 0#32 := by
    rw [BitVec.ushiftRight_eq_zero (Nat.le_refl 8)]
    rfl
  rw [crc32cByte, crc32cBits_reverse, hgone, BitVec.xor_zero, statedByte]

/-- R129: the signature by the stated register, read out with its bit order reversed. -/
theorem crc32c_eq_stated (bs : List Byte) :
    crc32c bs = (bs.foldl statedByte 0xFFFFFFFF#32).reverse ^^^ 0xFFFFFFFF#32 := by
  have hinit : crc32cInit = (0xFFFFFFFF#32).reverse := by decide +kernel
  rw [crc32c, crc32cFinal, crc32cFold, hinit, List.foldl_hom BitVec.reverse crc32cByte_reverse]

/-! ## The stream of a line (R128) -/

/-- R128: a valid mask built from the last cell to the first has each cell's flag in the cell's place. -/
theorem getLsbD_foldr_mask (cells : List (Option Byte)) (i : Nat) (h : i < 32) :
    (cells.foldr (fun x (acc : BitVec 32) => (acc <<< 1) ||| (if x.isSome then 1#32 else 0#32)) 0#32).getLsbD i =
      (cells[i]?.join).isSome := by
  induction cells generalizing i with
  | nil => simp
  | cons x cells ih =>
    rw [List.foldr_cons, BitVec.getLsbD_or, BitVec.getLsbD_shiftLeft]
    cases i with
    | zero => cases x <;> simp
    | succ i =>
      have hflag : (if x.isSome then 1#32 else 0#32).getLsbD (i + 1) = false := by cases x <;> simp
      rw [hflag, Nat.add_sub_cancel, ih i (by omega)]
      simp [h]

theorem getLsbD_maskOf (cells : Cells) (i : Nat) (h : i < 32) : (maskOf cells).getLsbD i = cells[i].isSome := by
  rw [maskOf, getLsbD_foldr_mask _ i h]
  simp [h]

/-- Table I-5: a line address has 24 bits, so its first stream byte is zero. -/
theorem bytesOf_line (line : Nat) (h : line < 2 ^ 24) :
    bytesOf (BitVec.ofNat 32 line) =
      [0x00#8, BitVec.ofNat 8 (line / 2 ^ 16), BitVec.ofNat 8 (line / 2 ^ 8), BitVec.ofNat 8 line] := by
  have hbyte (k : Nat) (hk : k < 4) : byteOf (BitVec.ofNat 32 line) k = BitVec.ofNat 8 (line / 2 ^ (8 * k)) := by
    apply BitVec.eq_of_toNat_eq
    rw [byteOf, BitVec.extractLsb'_toNat, BitVec.toNat_ofNat, BitVec.toNat_ofNat, Nat.mod_eq_of_lt (a := line) (by omega),
      Nat.shiftRight_eq_div_pow]
  have htop : line / 2 ^ (8 * 3) = 0 := Nat.div_eq_of_lt h
  rw [bytesOf, hbyte 3 (by decide), hbyte 2 (by decide), hbyte 1 (by decide), hbyte 0 (by decide), htop]
  simp

theorem filterMap_cells (cells : Cells) : cells.toList.filterMap id = (List.finRange 32).filterMap fun i => cells[i] := by
  have hlist : cells.toList = (List.finRange 32).map fun i => cells[i] := by
    rw [← List.ofFn_eq_map, ← Vector.toList_ofFn]
    exact congrArg Vector.toList Vector.ofFn_getElem.symm
  rw [hlist, List.filterMap_map]
  rfl

/-- Settles O12: the reflected register follows the stated one bit by bit, and a line's stream is its three parts. -/
theorem signatureIsTheStatedCrc : Obligations.SignatureIsTheStatedCrc := by
  unfold Obligations.SignatureIsTheStatedCrc
  refine ⟨crc32c_eq_stated, ?checkValue, fun _ _ => rfl, fun line cells hline => ⟨maskOf cells, getLsbD_maskOf cells, ?stream⟩⟩
  case checkValue => decide +kernel
  case stream =>
    rw [lineStream, bytesOf_line line hline, filterMap_cells]
    rfl

/-! ## LOG_READ (R84, R125) -/

/-- R84: the test of the start conditions where the head may not start leaves an engine that waited for the log IDLE. -/
theorem State.startBatches_of_not_startable {s : State} (hwait : s.drain.activity = .waitLog) (h : s.startable = false) :
    s.startBatches = s.setActivity .idle := by
  unfold startBatches testStart
  rw [hwait]
  cases hq : s.queue with
  | nil => rfl
  | cons r rest => simp [h]

theorem exec_drainStart_of_startable {s : State} (hr : s.resetn = true) (h : s.startable = true) :
    exec .drainStart s = .next s.startBatches.arbitrate := by
  have hstart : exec .drainStart s = .next (if s.resetn then if s.startable then s.startBatches.arbitrate else s else s) := rfl
  rw [hstart, if_pos hr, if_pos h]

/-- R125: the records leave the log and nothing else happens, unless an engine waits for an entry that came free. -/
theorem State.takeRecords_of_not_waiting {s : State} {n : Nat} (h : s.drain.activity ≠ .waitLog ∨ n = 0) :
    s.takeRecords n = s.setLog { s.log with records := s.log.records.drop n } := by
  unfold takeRecords
  cases hact : s.drain.activity with
  | waitLog =>
    have hn : n = 0 := h.resolve_left (not_not.mpr hact)
    simp [hn]
  | idle | writing _ | held => rfl

/-- R84: an engine that waits for the log tests its start conditions when an entry came free. -/
theorem State.takeRecords_of_waiting {s : State} {n : Nat} (hact : s.drain.activity = .waitLog) (hn : 1 ≤ n) :
    s.takeRecords n = (s.setLog { s.log with records := s.log.records.drop n }).startBatches.arbitrate := by
  unfold takeRecords
  rw [hact]
  exact if_pos hn

/-- R125: a LOG_READ for no record, or for more than twelve. -/
theorem requestLogRead_of_outOfRange (ch : Channel) {a : Byte} (s : State) (h : a.toNat = 0 ∨ 12 < a.toNat) :
    requestLogRead ch (.short a) s = (s, .nak .range) :=
  if_pos h

/-- R125: a LOG_READ for one to twelve records. -/
theorem requestLogRead_of_inRange (ch : Channel) {a : Byte} (s : State) (hlow : 1 ≤ a.toNat) (hhigh : a.toNat ≤ 12) :
    requestLogRead ch (.short a) s =
      (s.takeRecords (s.logReadCount ch a.toNat),
        .data (BitVec.ofNat 32 (s.logReadCount ch a.toNat) ::
          (s.log.records.take (s.logReadCount ch a.toNat)).flatMap CompletionRecord.toWords)) :=
  if_neg (by omega)

/-! ## The layout of a completion record (Table 8-12) -/

/-- Two fields side by side: the upper one counts in units of the lower one's range. -/
theorem toNat_append_eq {m n : Nat} (x : BitVec m) (y : BitVec n) : (x ++ y).toNat = x.toNat * 2 ^ n + y.toNat := by
  rw [BitVec.toNat_append, ← Nat.shiftLeft_add_eq_or_of_lt y.isLt, Nat.shiftLeft_eq]

/-- Table 8-12: each flag of a batch has its bit of the flags byte. -/
theorem BatchFlags.toByte_toNat (f : BatchFlags) :
    f.toByte.toNat =
      f.spanned.toNat + f.forced.toNat * 2 + f.writeLost.toNat * 4 + f.writeBypassed.toNat * 8 + f.memError.toNat * 16 +
        f.cut.toNat * 32 := by
  simp only [toByte, toNat_append_eq, BitVec.toNat_ofBool, BitVec.toNat_ofNat]
  omega

/-- Table 8-12: the word of outcome, flags and intervals, its last byte zero. -/
theorem outcomeWord_toNat (o : LogOutcome) (f : BatchFlags) (intervals : BitVec 8) :
    (o.code ++ f.toByte ++ intervals ++ 0#8).toNat =
      o.code.toNat * 2 ^ 24 +
        (f.spanned.toNat + f.forced.toNat * 2 + f.writeLost.toNat * 4 + f.writeBypassed.toNat * 8 + f.memError.toNat * 16 +
          f.cut.toNat * 32) * 2 ^ 16 + intervals.toNat * 2 ^ 8 := by
  simp only [toNat_append_eq, BatchFlags.toByte_toNat, BitVec.toNat_ofNat]
  omega

theorem memberMask_bit (ms : List Member) (w : WindowNo) (acc : BitVec 16) :
    (ms.foldl (fun acc m => acc ||| (1#16 <<< m.window.val)) acc).getLsbD w.val = true ↔
      acc.getLsbD w.val = true ∨ ∃ m ∈ ms, m.window = w := by
  induction ms generalizing acc with
  | nil => simp
  | cons m ms ih =>
    have hbit : (1#16 <<< m.window.val).getLsbD w.val = true ↔ m.window = w := by
      simp [Fin.ext_iff]
      omega
    rw [List.foldl_cons, ih, BitVec.getLsbD_or, Bool.or_eq_true, hbit, List.exists_mem_cons_iff, or_assoc]

/-- R119: bit w of a member mask names window w. -/
theorem getLsbD_memberMask (ms : List Member) (w : WindowNo) :
    (memberMask ms).getLsbD w.val = true ↔ ∃ m ∈ ms, m.window = w := by
  rw [memberMask, memberMask_bit]
  simp

/-- Settles O42: LOG_READ by its range and by what the engine waits for; the record's words field by field; the member mask. -/
theorem logReadReturnsTheOldest : Obligations.LogReadReturnsTheOldest := by
  unfold Obligations.LogReadReturnsTheOldest
  refine ⟨fun ch tag a s hs => ⟨fun h => ?range, fun hlow hhigh => ?taken⟩, fun r hlines hbytes => ?layout, getLsbD_memberMask⟩
  case range => exact exec_request_of_reply .logRead ch tag rfl hs (requestLogRead_of_outOfRange ch s h)
  case taken =>
    intro n t reply
    have hexec {u : State} (hu : s.takeRecords n = u) : exec (.logRead ch tag (.short a)) s = .next (u.answered ch tag reply) :=
      hu ▸ exec_request_of_reply .logRead ch tag rfl hs (requestLogRead_of_inRange ch s hlow hhigh)
    refine ⟨fun h => hexec (State.takeRecords_of_not_waiting h), fun hwait hn hport => ?_⟩
    have htest : s.takeRecords n = t.startBatches.arbitrate := State.takeRecords_of_waiting hwait hn
    refine ⟨fun hstart => ⟨_, exec_drainStart_of_startable (s := t) hs.1 hstart, hexec htest⟩, fun hstart => hexec ?_⟩
    have hidle : t.startBatches = t.setActivity .idle := State.startBatches_of_not_startable (s := t) hwait hstart
    rw [htest, hidle]
    exact State.arbitrate_settled (t.setActivity .idle) hport
  case layout =>
    refine ⟨_, _, _, _, rfl, toNat_append_eq _ _, ?word1, ?word2, ?word3⟩
    case word1 =>
      rw [outcomeWord_toNat]
      cases r.outcome <;> rfl
    case word2 => rw [toNat_append_eq, BitVec.toNat_ofNat, Nat.mod_eq_of_lt (by omega)]
    case word3 => rw [BitVec.toNat_ofNat, Nat.mod_eq_of_lt (by omega)]

end Sys2Proof.Machine
end

section
/-! What the operations below the setup link leave alone: an accepted CONFIG_SET may make timers expire, and an expiry may start and
complete batches, but none of that moves RESETN or the configuration record. -/

namespace Sys2Proof.Machine

/-- The level of RESETN and the configuration record. -/
def State.resetnConfig (s : State) : Bool × ConfigRecord := (s.resetn, s.config)

section
variable (s : State)

@[simp] theorem State.setSlots_resetnConfig (x : List Slot) : (s.setSlots x).resetnConfig = s.resetnConfig := rfl
@[simp] theorem State.setQueue_resetnConfig (x : List BatchRecord) : (s.setQueue x).resetnConfig = s.resetnConfig := rfl
@[simp] theorem State.setDrain_resetnConfig (x : DrainEngine) : (s.setDrain x).resetnConfig = s.resetnConfig := rfl
@[simp] theorem State.setMpa_resetnConfig (x : Mpa) : (s.setMpa x).resetnConfig = s.resetnConfig := rfl
@[simp] theorem State.setChain_resetnConfig (x : BitVec 32) : (s.setChain x).resetnConfig = s.resetnConfig := rfl
@[simp] theorem State.setLog_resetnConfig (x : CompletionLog) : (s.setLog x).resetnConfig = s.resetnConfig := rfl
@[simp] theorem State.setActivity_resetnConfig (a : DrainActivity) : (s.setActivity a).resetnConfig = s.resetnConfig := rfl
@[simp] theorem State.setPhase_resetnConfig (x : DrainPhase) : (s.setPhase x).resetnConfig = s.resetnConfig := rfl
@[simp] theorem State.setBegun_resetnConfig (b : Bool) : (s.setBegun b).resetnConfig = s.resetnConfig := rfl
@[simp] theorem State.setTimer_resetnConfig (t : StarvationTimer) : (s.setTimer t).resetnConfig = s.resetnConfig := rfl
@[simp] theorem State.setEvent_resetnConfig (e : Event) : (s.setEvent e).resetnConfig = s.resetnConfig := rfl
@[simp] theorem State.markGroup_resetnConfig (w : WindowNo) (f : GroupFlags → GroupFlags) :
    (s.markGroup w f).resetnConfig = s.resetnConfig := rfl
@[simp] theorem State.arbitrate_resetnConfig : s.arbitrate.resetnConfig = s.resetnConfig := rfl
@[simp] theorem State.requestHost_resetnConfig (x : PortTxn) : (s.requestHost x).resetnConfig = s.resetnConfig := rfl
@[simp] theorem State.freeSlots_resetnConfig (p : Slot → Bool) : (s.freeSlots p).resetnConfig = s.resetnConfig := rfl
@[simp] theorem State.retireMembers_resetnConfig (ms : List Member) (q : Sequence) :
    (s.retireMembers ms q).resetnConfig = s.resetnConfig := rfl

theorem State.ite_resetnConfig {p : Prop} [Decidable p] {t u : State} (ht : t.resetnConfig = s.resetnConfig)
    (hu : u.resetnConfig = s.resetnConfig) : (if p then t else u).resetnConfig = s.resetnConfig := by
  rw [apply_ite State.resetnConfig, ht, hu, ite_self]

@[simp] theorem State.answerBeat_resetnConfig (err : Bool) (data : Option Word) :
    (s.answerBeat err data).resetnConfig = s.resetnConfig := by
  cases ht : s.hpi.txn with
  | none => rw [s.answerBeat_none err data ht]
  | some t => rw [s.answerBeat_eq t err data ht]; rfl

@[simp] theorem State.setBeat_resetnConfig (b : BeatStatus) : (s.setBeat b).resetnConfig = s.resetnConfig := by
  cases ht : s.hpi.txn with
  | none => rw [s.setBeat_none b ht]
  | some t => rw [s.setBeat_eq t b ht]; rfl

@[simp] theorem State.passWrite_resetnConfig (a : Nat) (wd : Word) (be : BitVec 4) :
    (s.passWrite a wd be).resetnConfig = s.resetnConfig := by
  simp only [passWrite, requestHost_resetnConfig, setBeat_resetnConfig]

theorem State.stage_resetnConfig {t : State} {w : WindowNo} {a : Nat} {wd : Word} {be : BitVec 4} (h : s.stage w a wd be = some t) :
    t.resetnConfig = s.resetnConfig := by
  obtain ⟨d, e, held, g, -, ⟨x, -, rfl⟩ | ⟨-, -, -, rfl⟩⟩ := s.stage_cases t w a wd be h <;> rfl

@[simp] theorem State.retryHeld_resetnConfig : s.retryHeld.resetnConfig = s.resetnConfig := by
  unfold retryHeld
  cases s.hpi.held with
  | none => rfl
  | some h =>
    dsimp only
    cases h.reason with
    | retire => rfl
    | stall =>
      dsimp only
      cases s.win h.window with
      | free => rfl
      | idle d e => exact s.passWrite_resetnConfig h.addr h.wd h.be
      | retiring d e held q => exact s.setBeat_resetnConfig _
      | capturing d e held g =>
        dsimp only
        cases hstage : s.stage h.window h.addr h.wd h.be with
        | none => rfl
        | some t => exact (t.answerBeat_resetnConfig _ _).trans (s.stage_resetnConfig hstage)

@[simp] theorem State.releaseHeld_resetnConfig : s.releaseHeld.resetnConfig = s.resetnConfig := by
  unfold releaseHeld
  cases s.hpi.held with
  | none => rfl
  | some h => exact s.ite_resetnConfig (s.passWrite_resetnConfig h.addr h.wd h.be) rfl

@[simp] theorem State.afterFreeing_resetnConfig (n : Nat) : (s.afterFreeing n).resetnConfig = s.resetnConfig := by
  rw [afterFreeing, releaseHeld_resetnConfig, s.ite_resetnConfig s.retryHeld_resetnConfig rfl]

@[simp] theorem State.expireStall_resetnConfig : s.expireStall.resetnConfig = s.resetnConfig := by
  unfold expireStall
  cases s.hpi.held with
  | none => rfl
  | some h => exact s.ite_resetnConfig (by simp) (by simp)

@[simp] theorem State.changeHead_resetnConfig (f : BatchRecord → BatchRecord) :
    (s.changeHead f).resetnConfig = s.resetnConfig := by
  rw [changeHead_eq, setQueue_resetnConfig]

@[simp] theorem State.flagHead_resetnConfig (f : BatchFlags → BatchFlags) : (s.flagHead f).resetnConfig = s.resetnConfig :=
  s.changeHead_resetnConfig _

@[simp] theorem State.beginSlot_resetnConfig (m : Member) (x : Slot) : (s.beginSlot m x).resetnConfig = s.resetnConfig := by
  simp only [beginSlot, setMpa_resetnConfig, setDrain_resetnConfig, changeHead_resetnConfig]

@[simp] theorem State.beginLine_resetnConfig : s.beginLine.resetnConfig = s.resetnConfig := by
  unfold beginLine
  cases s.drainingHead with
  | none => rfl
  | some k =>
    dsimp only
    cases k.2.resume with
    | none => rfl
    | some p =>
      dsimp only
      cases s.slotAt p with
      | none => rfl
      | some x => exact s.beginSlot_resetnConfig p.1 x

@[simp] theorem State.queueEmptied_resetnConfig : s.queueEmptied.resetnConfig = s.resetnConfig :=
  s.ite_resetnConfig rfl rfl

@[simp] theorem State.completeBatch_resetnConfig : s.completeBatch.resetnConfig = s.resetnConfig := by
  unfold completeBatch
  cases s.drainingHead with
  | none => rfl
  | some k =>
    dsimp only
    rw [afterFreeing_resetnConfig, setActivity_resetnConfig]
    exact s.ite_resetnConfig (by simp) (by simp)

@[simp] theorem State.waitForLog_resetnConfig : s.waitForLog.resetnConfig = s.resetnConfig := by
  unfold waitForLog
  cases s.drain.activity <;> rfl

@[simp] theorem State.reserveHead_resetnConfig (r : BatchRecord) : (s.reserveHead r).resetnConfig = s.resetnConfig := by
  simp [reserveHead]

@[simp] theorem State.testStart_resetnConfig (n : Nat) : (State.testStart n s).resetnConfig = s.resetnConfig := by
  induction n generalizing s with
  | zero => rfl
  | succ n ih =>
    unfold testStart
    cases s.drain.activity with
    | writing _ | held => rfl
    | idle | waitLog =>
      cases s.queue with
      | nil => rfl
      | cons r rest =>
        have hnext : (testStart n (s.reserveHead r).completeBatch).resetnConfig = s.resetnConfig := by simp [ih]
        have hbegin : (s.reserveHead r).beginLine.resetnConfig = s.resetnConfig := by simp
        exact s.ite_resetnConfig (s.ite_resetnConfig s.waitForLog_resetnConfig (s.ite_resetnConfig hnext hbegin)) rfl

@[simp] theorem State.startBatches_resetnConfig : s.startBatches.resetnConfig = s.resetnConfig := s.testStart_resetnConfig _

@[simp] theorem State.proceed_resetnConfig : s.proceed.resetnConfig = s.resetnConfig := by
  unfold proceed
  cases s.drain.activity with
  | held => exact s.beginLine_resetnConfig
  | writing _ => rfl
  | idle | waitLog => exact s.startBatches_resetnConfig

@[simp] theorem State.expireStarvation_resetnConfig : s.expireStarvation.resetnConfig = s.resetnConfig :=
  s.ite_resetnConfig (by simp) (by simp)

@[simp] theorem State.endForced_resetnConfig : s.endForced.resetnConfig = s.resetnConfig := by
  unfold endForced
  cases s.drain.activity with
  | writing l => exact s.ite_resetnConfig (by simp) rfl
  | idle | waitLog | held => rfl

@[simp] theorem State.applyForce_resetnConfig : s.applyForce.resetnConfig = s.resetnConfig :=
  s.ite_resetnConfig s.endForced_resetnConfig rfl

@[simp] theorem State.applyStarvationLimit_resetnConfig (old : BitVec 16) :
    (s.applyStarvationLimit old).resetnConfig = s.resetnConfig :=
  s.ite_resetnConfig rfl (s.ite_resetnConfig s.expireStarvation_resetnConfig rfl)

@[simp] theorem State.applyStallLimit_resetnConfig (old : BitVec 16) : (s.applyStallLimit old).resetnConfig = s.resetnConfig := by
  unfold applyStallLimit
  cases s.hpi.held with
  | none => rfl
  | some h => exact s.ite_resetnConfig s.expireStall_resetnConfig rfl

/-- R163: the record is replaced whole, whatever its effects. -/
theorem State.applyConfig_resetnConfig (c : ConfigRecord) : (s.applyConfig c).resetnConfig = (s.resetn, c) := by
  simp only [applyConfig, arbitrate_resetnConfig, applyStallLimit_resetnConfig, applyStarvationLimit_resetnConfig,
    applyForce_resetnConfig]
  rfl

@[simp] theorem State.applyConfig_config (c : ConfigRecord) : (s.applyConfig c).config = c :=
  congrArg Prod.snd (s.applyConfig_resetnConfig c)

@[simp] theorem State.applyConfig_resetn (c : ConfigRecord) : (s.applyConfig c).resetn = s.resetn :=
  congrArg Prod.fst (s.applyConfig_resetnConfig c)

/-- R163: an accepted CONFIG_SET leaves the link to the command path. -/
@[simp] theorem State.applyConfig_slc (c : ConfigRecord) : (s.applyConfig c).slc = s.slc :=
  (s.aside_frame (f := fun t => t.applyConfig c) fun x p => s.applyConfig_aside x p c).1

end

end Sys2Proof.Machine
end

section
/-! The setup command set: requests of unknown kinds, IDENT, and the configuration record as CONFIG_SET checks and writes it and
CONFIG_GET returns it. -/

namespace Sys2Proof.Machine

/-! ## Kinds that Table 8-1 does not list (R154) -/

/-- R154: the kinds that the command path knows are those of Table 8-1. -/
theorem kindOfCode_eq_none_iff (kind : Byte) : kindOfCode kind = none ↔ kind ∉ catalogue := by
  have hcatalogue : catalogue = allKinds.map Kind.code := rfl
  rw [kindOfCode, List.find?_eq_none, hcatalogue, List.mem_map, not_exists]
  simp only [decide_eq_true_eq, not_and]

theorem exec_unknownKind (kind : Byte) (ch : Channel) (tag : Tag) (body : FrameBody) {s : State} (hr : s.resetn = true) :
    exec (.unknownKind kind ch tag body) s = .next (s.accept (.frame { kind := kind, ch := ch, tag := tag, body := body })) :=
  whenReleased_of_resetn (fun s => s.accept (.frame { kind := kind, ch := ch, tag := tag, body := body })) hr

theorem exec_byteReceived (b : Byte) {s : State} (hr : s.resetn = true) : exec (.byteReceived b) s = .next (s.receiveByte b) :=
  whenReleased_of_resetn (fun s => s.receiveByte b) hr

/-- R138: FFH between frames is fill, so no frame begins with it. -/
theorem State.receiveByte_fill {s : State} (h : s.slc.assembler = .frameStart) : s.receiveByte 0xFF#8 = s := by
  rw [receiveByte, h]
  exact if_pos rfl

/-- Settles O23: a kind outside Table 8-1 is no kind of the command path, and FFH is fill and so begins no frame. -/
theorem unknownKindIsRefused : Obligations.UnknownKindIsRefused := by
  unfold Obligations.UnknownKindIsRefused
  intro kind ch tag body s hs
  refine ⟨fun hkind => ?_, by decide, by decide, by decide, by decide, fun hstart => ?_⟩
  · rw [exec_unknownKind kind ch tag body hs.1, s.accept_unknown _ ((kindOfCode_eq_none_iff kind).mpr hkind) hs]
  · rw [exec_byteReceived 0xFF#8 hs.1, State.receiveByte_fill hstart]

/-! ## IDENT (R158) -/

/-- Settles O24: IDENT has one answer for each form of its frame, and neither reads the state. -/
theorem identAnswersTheCapacities : Obligations.IdentAnswersTheCapacities := by
  unfold Obligations.IdentAnswersTheCapacities
  intro ch tag s hs
  exact ⟨fun _ => exec_request_of_reply .ident ch tag rfl hs rfl, fun _ => exec_request_of_reply .ident ch tag rfl hs rfl⟩

/-! ## The configuration record and its words (Table 8-8) -/

/-- R162: the RANGE failures of a CONFIG_SET payload: a budget or a stall limit of 0, or a reserved bit set. -/
def ConfigOutOfRange (w0 w1 w2 : Word) : Prop :=
  w0.toNat / 2 ^ 16 = 0 ∨ w1.toNat / 2 ^ 16 = 0 ∨ w1.toNat % 2 ^ 16 / 2 ≠ 0 ∨ w2.toNat / 2 ^ 11 ≠ 0

theorem extractLsb'_high_eq_zero (w : Word) : w.extractLsb' 16 16 = 0#16 ↔ w.toNat / 2 ^ 16 = 0 := by
  rw [← BitVec.toNat_inj, ← field_top w 16 16 rfl]
  rfl

/-- R162: the model's check of the fields, by quotients and remainders of the words. -/
theorem configInRange_iff (w0 w1 w2 : Word) :
    (w0.extractLsb' 16 16 ≠ 0#16 ∧ w1.extractLsb' 16 16 ≠ 0#16 ∧ field w1 1 15 = 0 ∧ field w2 16 16 = 0 ∧ field w2 11 5 = 0) ↔
      ¬ConfigOutOfRange w0 w1 w2 := by
  simp only [ConfigOutOfRange, ne_eq, extractLsb'_high_eq_zero, field_eq]
  omega

theorem configFields_eq_none_iff (w0 w1 w2 : Word) : configFields w0 w1 w2 = none ↔ ConfigOutOfRange w0 w1 w2 := by
  rw [← not_iff_not, ← configInRange_iff, configFields]
  split <;> simp_all

/-- Table 8-8: each field of an accepted record at its place. -/
theorem configFields_eq_some {w0 w1 w2 : Word} {c : ConfigRecord} (h : configFields w0 w1 w2 = some c) :
    ¬ConfigOutOfRange w0 w1 w2 ∧
      c = { budget := w0.extractLsb' 16 16, starvationLimit := w0.extractLsb' 0 16, stallLimit := w1.extractLsb' 16 16,
            forceEnable := w1.getLsbD 0, eventMask := w2.extractLsb' 0 11 } := by
  rw [configFields, Option.ite_none_right_eq_some, configInRange_iff] at h
  exact h.imp_right fun hc => (Option.some.inj hc).symm

theorem budget_of_configFields {w0 w1 w2 : Word} {c : ConfigRecord} (h : configFields w0 w1 w2 = some c) :
    c.budget.toNat = w0.toNat / 2 ^ 16 := by
  obtain ⟨-, rfl⟩ := configFields_eq_some h
  exact field_top w0 16 16 rfl

/-- Table 8-8: the three words of the layout, field by field. -/
theorem ConfigRecord.toWords_fields (c : ConfigRecord) :
    ∃ w0 w1 w2 : Word, c.toWords = [w0, w1, w2] ∧
      w0.toNat = c.budget.toNat * 2 ^ 16 + c.starvationLimit.toNat ∧
      w1.toNat = c.stallLimit.toNat * 2 ^ 16 + c.forceEnable.toNat ∧ w2.toNat = c.eventMask.toNat := by
  refine ⟨_, _, _, rfl, toNat_append_eq _ _, ?limits, ?mask⟩
  case limits =>
    simp only [toNat_append_eq, BitVec.toNat_ofBool, BitVec.toNat_ofNat]
    omega
  case mask =>
    rw [toNat_append_eq, BitVec.toNat_ofNat]
    omega

/-- Table 8-8: a record read back from the words that wrote it gives those words, whose reserved bits are 0. -/
theorem toWords_of_configFields {w0 w1 w2 : Word} {c : ConfigRecord} (h : configFields w0 w1 w2 = some c) :
    c.toWords = [w0, w1, w2] := by
  obtain ⟨hrange, rfl⟩ := configFields_eq_some h
  obtain ⟨v0, v1, v2, hwords, h0, h1, h2⟩ := ConfigRecord.toWords_fields
    { budget := w0.extractLsb' 16 16, starvationLimit := w0.extractLsb' 0 16, stallLimit := w1.extractLsb' 16 16,
      forceEnable := w1.getLsbD 0, eventMask := w2.extractLsb' 0 11 }
  have hforce : (w1.getLsbD 0).toNat = w1.toNat % 2 := by
    rw [BitVec.getLsbD, Nat.toNat_testBit, Nat.pow_zero, Nat.div_one]
  simp only [ConfigOutOfRange] at hrange
  simp only [BitVec.extractLsb'_toNat, Nat.shiftRight_eq_div_pow, hforce] at h0 h1 h2
  have e0 : v0 = w0 := BitVec.eq_of_toNat_eq (by omega)
  have e1 : v1 = w1 := BitVec.eq_of_toNat_eq (by omega)
  have e2 : v2 = w2 := BitVec.eq_of_toNat_eq (by omega)
  rw [hwords, e0, e1, e2]

/-! ## The checks of CONFIG_SET (R162) -/

/-- R162: a strict batch in the queue is above the budget. -/
theorem State.strictAbove_iff (s : State) (c : ConfigRecord) :
    s.strictAbove c = true ↔ ∃ r ∈ s.queue, r.strict = true ∧ c.budget.toNat * 64 < r.bytes := by
  simp only [strictAbove, List.any_eq_true, Bool.and_eq_true, decide_eq_true_eq]

/-- R162: a CONFIG_SET payload out of range. -/
theorem requestConfigSet_of_outOfRange {w0 w1 w2 : Word} (s : State) (h : configFields w0 w1 w2 = none) :
    requestConfigSet (.long [w0, w1, w2]) s = (s, .nak .range) := by
  simp only [requestConfigSet, longForm3, h]

/-- R162: a CONFIG_SET payload in range, whose budget decides. -/
theorem requestConfigSet_of_inRange {w0 w1 w2 : Word} {c : ConfigRecord} (s : State) (h : configFields w0 w1 w2 = some c) :
    requestConfigSet (.long [w0, w1, w2]) s = if s.strictAbove c then (s, .nak .oversize) else (s.applyConfig c, .ack) := by
  simp only [requestConfigSet, longForm3, h]

/-- R144: CONFIG_SET at a command path at rest is answered at once. -/
theorem exec_configSet (ch : Channel) (tag : Tag) {body : FrameBody} {s : State} (hs : s.LinkReady) {r : State × Reply}
    (hr : requestConfigSet body s = r) : exec (.configSet ch tag body) s = .next (r.1.answered ch tag r.2) :=
  exec_request_of_reply .configSet ch tag rfl hs hr

/-- R163: the effect of an accepted CONFIG_SET takes no place of the response queue. -/
theorem State.applyConfig_answered_responses (s : State) (c : ConfigRecord) (ch : Channel) (tag : Tag) :
    ((s.applyConfig c).answered ch tag .ack).slc.responses =
      s.slc.responses ++ [.filled { ch := ch, tag := tag, reply := .ack }] := by
  simp only [answered, setResponses_slc, applyConfig_slc]

/-- Settles O27: the range check decides the predicate over the words, and the budget's check the one over the queue. -/
theorem configSetIsChecked : Obligations.ConfigSetIsChecked := by
  unfold Obligations.ConfigSetIsChecked
  intro ch tag w0 w1 w2 s hs
  refine ⟨fun hrange => exec_configSet ch tag hs (requestConfigSet_of_outOfRange s ((configFields_eq_none_iff w0 w1 w2).mpr hrange)),
    fun hbudget hstall hreserved hmask => ?_⟩
  have hrange : ¬ConfigOutOfRange w0 w1 w2 := by
    rintro (h | h | h | h)
    exacts [hbudget h, hstall h, h hreserved, h hmask]
  obtain ⟨c, hc⟩ := Option.ne_none_iff_exists'.mp (mt (configFields_eq_none_iff w0 w1 w2).mp hrange)
  have hanswer := requestConfigSet_of_inRange s hc
  have habove := s.strictAbove_iff c
  rw [budget_of_configFields hc] at habove
  refine ⟨fun hover => exec_configSet ch tag hs (hanswer.trans (if_pos (habove.mpr hover))), fun hfits =>
    ⟨_, exec_configSet ch tag hs (hanswer.trans (if_neg (mt habove.mp ?_))), s.applyConfig_answered_responses c ch tag⟩⟩
  rintro ⟨r, hr, hstrict, hover⟩
  exact Nat.not_le.mpr hover (hfits r hr hstrict)

/-! ## CONFIG_GET (R161) -/

/-- An accepted CONFIG_SET leaves the command path at rest. -/
theorem State.applyConfig_linkReady {s : State} (hs : s.LinkReady) (c : ConfigRecord) : (s.applyConfig c).LinkReady := by
  simpa only [LinkReady, applyConfig_resetn, applyConfig_slc] using hs

/-- A request answered at rest leaves the command path at rest while a place is free. -/
theorem State.answered_linkReady {s : State} (hs : s.LinkReady) (hroom : s.slc.responses.length < 7) (ch : Channel) (tag : Tag)
    (reply : Reply) : (s.answered ch tag reply).LinkReady := by
  obtain ⟨hresetn, hwipe, hfirst, -⟩ := hs
  refine ⟨hresetn, hwipe, firstAwaiting_append_filled _ _ hfirst, ?_⟩
  simp only [answered, setResponses_slc, List.length_append, List.length_singleton]
  omega

theorem exec_configGet (ch : Channel) (tag : Tag) (a : Byte) {s : State} (hs : s.LinkReady) :
    exec (.configGet ch tag (.short a)) s = .next (s.answered ch tag (.data s.config.toWords)) :=
  exec_request_of_reply .configGet ch tag rfl hs rfl

/-- Settles O26: the layout field by field, and the record of an accepted CONFIG_SET read back. -/
theorem configGetReturnsTheRecord : Obligations.ConfigGetReturnsTheRecord := by
  unfold Obligations.ConfigGetReturnsTheRecord
  intro ch tag a s hs
  refine ⟨?layout, fun ch' tag' w0 w1 w2 hroom => ?readBack⟩
  case layout =>
    obtain ⟨w0, w1, w2, hwords, hfields⟩ := s.config.toWords_fields
    exact ⟨w0, w1, w2, hwords ▸ exec_configGet ch tag a hs, hfields⟩
  case readBack =>
    cases hc : configFields w0 w1 w2 with
    | none => exact ⟨_, .nak .range, exec_configSet ch' tag' hs (requestConfigSet_of_outOfRange s hc), rfl, nofun, fun _ => rfl⟩
    | some c =>
      have hanswer := requestConfigSet_of_inRange s hc
      by_cases habove : s.strictAbove c = true
      · exact ⟨_, .nak .oversize, exec_configSet ch' tag' hs (hanswer.trans (if_pos habove)), rfl, nofun, fun _ => rfl⟩
      · refine ⟨_, .ack, exec_configSet ch' tag' hs (hanswer.trans (if_neg habove)), s.applyConfig_answered_responses c ch' tag',
          fun _ => ?_, fun h => absurd rfl h⟩
        have hready := State.answered_linkReady (State.applyConfig_linkReady hs c) (by rwa [State.applyConfig_slc]) ch' tag' .ack
        have hconfig : ((s.applyConfig c).answered ch' tag' .ack).config = c := s.applyConfig_config c
        rw [exec_configGet ch tag a hready, hconfig, toWords_of_configFields hc]

end Sys2Proof.Machine
end

section
/-! What a command can do, said once: every command is a run of moves, each the change of one block under the guard that the model
tests before it. The laws that every step keeps are proved move by move, and a command's labels say which events it may set. -/

namespace Sys2Proof.Machine

/-! ## Moves -/

/-- What a move does that the rules keep account of: a change of the memory port, an event set or acknowledged, a frame counted, a batch
formed, an edge of RESETN; `inner` is none of these. -/
inductive Label where
  | inner
  | port
  | event (e : Event)
  | acknowledge
  | frame
  | close
  | reset
  | release
deriving DecidableEq

/-- The batches that a move forms. -/
def Label.cost : Label → Nat
  | .close => 1
  | _ => 0

/-- R103, R108: a word address, or that of the held beat. -/
def State.WordAddress (s : State) (a : Nat) : Prop := a % 4 = 0 ∨ ∃ h ∈ s.hpi.held, h.addr = a

/-- The slot keeps its key, its status and its number of valid bytes. -/
structure Slot.Alike (x y : Slot) : Prop where
  window : y.window = x.window
  epoch : y.epoch = x.epoch
  line : y.line = x.line
  status : y.status = x.status
  bytes : validCount y.cells = validCount x.cells

/-- The record keeps what R48 says of its slots, its number and its standing. -/
structure BatchRecord.Alike (r q : BatchRecord) : Prop where
  seq : q.seq = r.seq
  members : q.members = r.members
  lines : q.lines = r.lines
  bytes : q.bytes = r.bytes
  draining : q.isDraining = r.isDraining

/-- R93, parts 1, 2, 4 and 5, with the activity IDLE: what a completion does to the slots, the log, the queue and the windows. -/
def State.completed (s : State) (r : BatchRecord) (f : DrainFields) : State :=
  ((((s.freeSlots (Slot.inBatch r.members)).setLog
    { (s.log.post (drainedRecord r f s.drain.frameCount)) with reserved := false }).setQueue s.queue.tail).retireMembers
      r.members r.seq).setActivity .idle

/-- R71, R101, R166: what WIPE does to every block but the host port. -/
def State.wiped (s : State) : State :=
  (((s.stopDraining.setQueue []).setSlots []).setWindows (Vector.replicate 16 .free)).setDrain
    { s.drain with
      activity := .idle
      phase := if s.drain.phase = .forced then .closed else s.drain.phase
      timer := clearedTimer
      begun := false }

/-- One change of one block, under the guard that the model tests before it. -/
inductive Move : Label → State → State → Prop
  | pins (s : State) (q l : Bool) : Move .inner s ((s.setQuiet q).setLsel l)
  | config (s : State) (c : ConfigRecord) : Move .inner s (s.setConfig c)
  | chain (s : State) (x : BitVec 32) : Move .inner s (s.setChain x)
  | freeIndex (s : State) (n : Nat) : Move .inner s (s.setFreeIndex n)
  | hpi (s : State) (h : Hpi) (hb : ∀ b ∈ h.held, s.WordAddress b.addr) : Move .inner s (s.setHpi h)
  | mpa (s : State) (m : Mpa) : Move .port s (s.setMpa m)
  | event (s : State) (e : Event) : Move (.event e) s (s.setEvent e)
  | acknowledge (s : State) (named : EventSet) : Move .acknowledge s (s.setEvents (EventSet.without s.events named))
  | slc (s : State) (x : Slc) (hps : x.responses.length ≤ s.slc.responses.length ∨ x.responses.length ≤ 8)
      (hls : ∀ c : Channel, x.limits[c.val] = s.slc.limits[c.val] ∨ 8 ≤ x.limits[c.val] ∧ x.limits[c.val] ≤ 64) :
      Move .inner s (s.setSlc x)
  | stage (s t : State) (w : WindowNo) (a : Nat) (wd : Word) (be : BitVec 4) (ha : s.WordAddress a)
      (h : s.stage w a wd be = some t) : Move .inner s t
  | slots (s : State) (f : Slot → Slot) (hf : ∀ x : Slot, x.Alike (f x)) : Move .inner s (s.setSlots (s.slots.map f))
  | markGroup (s : State) (w : WindowNo) (f : GroupFlags → GroupFlags) : Move .inner s (s.markGroup w f)
  | define (s : State) (w : WindowNo) (d : WindowDef) (hw : s.win w = .free) (hd : s.overlaps d.geometry = false) :
      Move .inner s (s.setWin w (.idle d 0))
  | start (s : State) (w : WindowNo) (d : WindowDef) (e : Epoch) (hw : s.win w = .idle d e) :
      Move .inner s (s.setWin w (.capturing d e 0 newGroup))
  | free (s : State) (w : WindowNo) (d : WindowDef) (e : Epoch) (hw : s.win w = .idle d e) : Move .inner s (s.setWin w .free)
  | abort (s : State) (w : WindowNo) (hw : (s.win w).isCapturing = true) : Move .inner s (s.abortGroup w)
  | close (s : State) (retire : Bool) (mask : BitVec 16) (hw : ∀ w ∈ maskWindows mask, (s.win w).isCapturing = true)
      (hq : s.queue.length < 8) : Move .close s (s.closeBatch retire (maskWindows mask))
  | cancel (s : State) (r : BatchRecord) (hr : s.queue.find? (·.seq = r.seq) = some r) (hd : r.isDraining = false)
      (hl : s.log.freeEntries ≠ 0) : Move .inner s (s.removeBatch r)
  | head (s : State) (f : BatchRecord → BatchRecord) (hf : ∀ r : BatchRecord, r.Alike (f r)) : Move .inner s (s.changeHead f)
  | drain (s : State) (d : DrainEngine) (ha : d.activity.drains = s.drain.activity.drains)
      (hc : d.frameCount = s.drain.frameCount) : Move .inner s (s.setDrain d)
  | frame (s : State) (d : DrainEngine) (ha : d.activity.drains = s.drain.activity.drains)
      (hc : d.frameCount = s.drain.frameCount + 1) : Move .frame s (s.setDrain d)
  | begin (s : State) (r : BatchRecord) (rest : List BatchRecord) (d : DrainEngine) (hq : s.queue = r :: rest)
      (hr : r.isQueued = true) (hl : s.log.freeEntries ≠ 0) (hs : s.drain.activity.drains = false)
      (ha : d.activity.drains = true) (hc : d.frameCount = s.drain.frameCount) : Move .inner s ((s.reserveHead r).setDrain d)
  | complete (s : State) (r : BatchRecord) (f : DrainFields) (h : s.drainingHead = some (r, f)) :
      Move .inner s (s.completed r f)
  | dropLog (s : State) (n : Nat) : Move .inner s (s.setLog { s.log with records := s.log.records.drop n })
  | wipe (s : State) : Move .inner s s.wiped
  | reset (s : State) : Move .reset s s.hardwareReset
  | release (s : State) : Move .release s s.releaseReset

/-- A run of moves that are inner or have labels of `L`, and that form at most `n` batches. -/
inductive Moves (L : List Label) : Nat → State → State → Prop
  | refl (n : Nat) (s : State) : Moves L n s s
  | step {l : Label} {n : Nat} {s t u : State} (hl : l = .inner ∨ l ∈ L) (h : Move l s t) (k : Moves L n t u) :
      Moves L (n + l.cost) s u

namespace Moves

variable {L M : List Label} {m n : Nat} {s t u : State}

theorem mono (h : Moves L m s t) (hL : L ⊆ M) (hn : m ≤ n) : Moves M n s t := by
  induction h generalizing n with
  | refl => exact .refl n _
  | @step l k s t u hl h _ ih =>
    have hn' : n = n - l.cost + l.cost := by omega
    rw [hn']
    exact .step (hl.imp_right fun hl => hL hl) h (ih (by omega))

theorem trans (h : Moves L m s t) (k : Moves L n t u) : Moves L (m + n) s u := by
  induction h with
  | refl j s => exact k.mono (List.Subset.refl L) (by omega)
  | @step l j s t u hl h _ ih =>
    rw [Nat.add_right_comm]
    exact .step hl h (ih k)

/-- A run that forms no batch, and then another. -/
theorem andThen (h : Moves L 0 s t) (k : Moves L n t u) : Moves L n s u := by
  simpa using h.trans k

theorem inner (h : Move .inner s t) : Moves L 0 s t := .step (.inl rfl) h (.refl 0 t)

theorem labelled {l : Label} (h : Move l s t) (hl : l ∈ L) : Moves L l.cost s t := by
  simpa using Moves.step (.inr hl) h (.refl 0 t)

theorem ite {p : Prop} [Decidable p] (ht : p → Moves L n s t) (hu : ¬p → Moves L n s u) : Moves L n s (if p then t else u) := by
  split
  next h => exact ht h
  next h => exact hu h

/-- What every move of a run keeps, the run keeps. -/
theorem keeps {P : State → Prop} (h : Moves L n s t)
    (hP : ∀ l s t, l = .inner ∨ l ∈ L → Move l s t → P s → P t) (hs : P s) : P t := by
  induction h with
  | refl => exact hs
  | step hl h _ ih => exact ih (hP _ _ _ hl h hs)

end Moves

/-! ## The host path -/

section
variable {L : List Label} (s : State)

theorem Hpi.held_afterBeat (h : Hpi) (t : HostTransaction) (a : HostAnswer) : (h.afterBeat t a).held = none := by
  unfold Hpi.afterBeat Hpi.held
  by_cases hc : t.index < t.req.cnt.toNat
  · rw [if_pos hc]
  · rw [if_neg hc]
    cases h.waiting <;> rfl

theorem State.answerBeat_moves (err : Bool) (data : Option Word) : Moves L 0 s (s.answerBeat err data) := by
  cases ht : s.hpi.txn with
  | none => rw [s.answerBeat_none err data ht]; exact .refl 0 s
  | some t =>
    rw [s.answerBeat_eq t err data ht]
    exact .inner (.hpi s _ (by simp [Hpi.held_afterBeat]))

theorem State.setBeat_moves (b : BeatStatus) (hb : ∀ h, b = .held h → s.WordAddress h.addr) : Moves L 0 s (s.setBeat b) := by
  cases ht : s.hpi.txn with
  | none => rw [s.setBeat_none b ht]; exact .refl 0 s
  | some t =>
    rw [s.setBeat_eq t b ht]
    refine .inner (.hpi s _ fun h hh => hb h ?_)
    obtain ⟨_, ht', hb'⟩ := (Hpi.held_eq_some _ _).mp hh
    cases ht'
    exact hb'

theorem State.hold_moves (w : WindowNo) {a : Nat} (wd : Word) (be : BitVec 4) (why : HoldReason) (ha : s.WordAddress a) :
    Moves L 0 s (s.hold w a wd be why) :=
  s.setBeat_moves _ fun h hh => by cases hh; exact ha

theorem State.setMpa_moves (m : Mpa) (hp : .port ∈ L) : Moves L 0 s (s.setMpa m) := .labelled (.mpa s m) hp

theorem State.arbitrate_moves (hp : .port ∈ L) : Moves L 0 s s.arbitrate := s.setMpa_moves _ hp

theorem State.setEvent_moves {e : Event} (he : .event e ∈ L) : Moves L 0 s (s.setEvent e) := .labelled (.event s e) he

theorem State.passWrite_moves (a : Nat) (wd : Word) (be : BitVec 4) (hp : .port ∈ L) : Moves L 0 s (s.passWrite a wd be) :=
  (s.setBeat_moves .writing (by simp)).andThen ((s.setBeat .writing).setMpa_moves _ hp)

theorem validCount_eq (cs : Cells) : validCount cs = (List.finRange 32).countP fun i => cs[i].isSome := by
  have h : cs.toList = (List.finRange 32).map fun i => cs[i] := List.ext_getElem (by simp) (by simp)
  rw [validCount, h, List.countP_map]
  rfl

/-- R37: the update makes no byte valid. -/
theorem validCount_passCells (cs : Cells) (off : Nat) (l : Lanes) : validCount (passCells cs off l) = validCount cs := by
  rw [validCount_eq, validCount_eq]
  refine List.countP_congr fun i _ => ?_
  simp only [passCells, Fin.getElem_fin, Vector.getElem_ofFn]
  split
  next h => simp [h]
  next => rfl

theorem State.issuePass_moves (p : PassBeat) (hp : .port ∈ L) (he : .event .writeBypassed ∈ L) : Moves L 0 s (s.issuePass p) := by
  have hslots : Moves L 0 s (s.setSlots (passUpdate p.window p.addr p.wd p.be s.slots)) :=
    .inner (.slots s _ fun x => by
      split
      · exact ⟨rfl, rfl, rfl, rfl, validCount_passCells ..⟩
      · exact ⟨rfl, rfl, rfl, rfl, rfl⟩)
  exact hslots.andThen <| (Moves.inner (.markGroup _ p.window _)).andThen <| (State.setEvent_moves _ he).andThen <|
    (State.setBeat_moves _ .writing (by simp)).andThen (State.setMpa_moves _ _ hp)

theorem State.tryIssue_moves (hp : .port ∈ L) (he : .event .writeBypassed ∈ L) : Moves L 0 s s.tryIssue := by
  unfold tryIssue
  split
  · split
    · exact .ite (fun _ => .refl 0 s) fun _ => s.issuePass_moves _ hp he
    · exact .refl 0 s
  · exact .refl 0 s

/-- The events of the host path. -/
abbrev hostLabels : List Label := [.port, .event .writeLost, .event .writeBypassed]

theorem State.offer_moves (d : WindowDef) (w : WindowNo) {a : Nat} (wd : Word) (be : BitVec 4) (ha : s.WordAddress a)
    (hL : hostLabels ⊆ L) : Moves L 0 s (s.offer d w a wd be) := by
  unfold offer
  refine .ite (fun _ => s.answerBeat_moves _ _) fun _ => ?_
  cases hs : s.stage w a wd be with
  | some t => exact (Moves.inner (.stage s t w a wd be ha hs)).andThen (t.answerBeat_moves _ _)
  | none =>
    cases d.policy with
    | stall => exact s.hold_moves w wd be .stall ha
    | pass => exact (s.setBeat_moves _ (by simp)).andThen (State.tryIssue_moves _ (hL (by decide)) (hL (by decide)))
    | drop =>
      exact (Moves.inner (.markGroup s w _)).andThen <| (State.setEvent_moves _ (hL (by decide))).andThen
        (State.answerBeat_moves _ _ _)

theorem State.routeWrite_moves {a : Nat} (wd : Word) (be : BitVec 4) (ha : s.WordAddress a) (hL : hostLabels ⊆ L) :
    Moves L 0 s (s.routeWrite a wd be) := by
  have hpass : Moves L 0 s (s.passWrite a wd be) := s.passWrite_moves a wd be (hL (by decide))
  unfold routeWrite
  refine .ite (fun _ => s.answerBeat_moves _ _) fun _ => ?_
  cases s.windowAt a with
  | none => exact hpass
  | some w =>
    dsimp only
    cases s.win w with
    | free | idle d e => exact hpass
    | capturing d e n g => exact s.offer_moves d w wd be ha hL
    | retiring d e n q => exact s.hold_moves w wd be .retire ha

theorem State.readStaged_moves (a : Nat) (staged : Lanes) (hp : .port ∈ L) : Moves L 0 s (s.readStaged a staged) :=
  .ite (fun _ => s.answerBeat_moves _ _) fun _ => (s.setBeat_moves _ (by simp)).andThen (State.setMpa_moves _ _ hp)

theorem State.routeRead_moves (a : Nat) (hp : .port ∈ L) : Moves L 0 s (s.routeRead a) := by
  unfold routeRead
  refine .ite (fun _ => (s.answerBeat_moves _ _).andThen (.inner (.freeIndex _ _))) fun _ => ?_
  cases s.windowAt a with
  | none => exact s.readStaged_moves a _ hp
  | some w => dsimp only; cases s.win w <;> exact s.readStaged_moves a _ hp

theorem State.wordAddress_of_held {h : HeldBeat} (hh : s.hpi.held = some h) : s.WordAddress h.addr := .inr ⟨h, hh, rfl⟩

theorem State.retryHeld_moves (hp : .port ∈ L) : Moves L 0 s s.retryHeld := by
  unfold retryHeld
  cases hh : s.hpi.held with
  | none => exact .refl 0 s
  | some h =>
    dsimp only
    cases h.reason with
    | retire => exact .refl 0 s
    | stall =>
      dsimp only
      cases s.win h.window with
      | free => exact .refl 0 s
      | idle d e => exact s.passWrite_moves _ _ _ hp
      | retiring d e n q => exact s.setBeat_moves _ fun b hb => by cases hb; exact .inr ⟨h, hh, rfl⟩
      | capturing d e n g =>
        dsimp only
        cases hs : s.stage h.window h.addr h.wd h.be with
        | none => exact .refl 0 s
        | some t =>
          exact (Moves.inner (.stage s t _ _ _ _ (s.wordAddress_of_held hh) hs)).andThen (t.answerBeat_moves _ _)

theorem State.releaseHeld_moves (hp : .port ∈ L) : Moves L 0 s s.releaseHeld := by
  unfold releaseHeld
  split
  · exact .ite (fun _ => s.passWrite_moves _ _ _ hp) fun _ => .refl 0 s
  · exact .refl 0 s

theorem State.retryAfter_moves (freed : Nat) (hp : .port ∈ L) : Moves L 0 s (s.retryAfter freed) :=
  .ite (fun _ => s.retryHeld_moves hp) fun _ => .refl 0 s

theorem State.afterFreeing_moves (freed : Nat) (hp : .port ∈ L) : Moves L 0 s (s.afterFreeing freed) :=
  (s.retryAfter_moves freed hp).andThen (State.releaseHeld_moves _ hp)

theorem State.expireStall_moves (ht : .event .stallTimeout ∈ L) (hl : .event .writeLost ∈ L) : Moves L 0 s s.expireStall := by
  unfold expireStall
  split
  · have hexpired := (s.answerBeat_moves (L := L) true none).andThen (State.setEvent_moves _ ht)
    exact .ite (fun _ => hexpired.andThen <| (Moves.inner (.markGroup _ _ _)).andThen (State.setEvent_moves _ hl))
      fun _ => hexpired
  · exact .refl 0 s

theorem State.answerFromMemory_moves (err : Bool) (rd : Word) : Moves L 0 s (s.answerFromMemory err rd) := by
  unfold answerFromMemory
  split
  · split
    · exact s.answerBeat_moves _ _
    · exact s.answerBeat_moves _ _
    · exact .refl 0 s
  · exact .refl 0 s

/-! ## The drain engine -/

/-- R83, R84, R93: what starting and completing batches may do. -/
abbrev drainLabels : List Label := [.port, .event .batchDone, .event .batchTorn, .event .logFull]

theorem State.setDrain_moves (d : DrainEngine) (ha : d.activity.drains = s.drain.activity.drains)
    (hc : d.frameCount = s.drain.frameCount) : Moves L 0 s (s.setDrain d) := .inner (.drain s d ha hc)

theorem State.flagHead_moves (f : BatchFlags → BatchFlags) : Moves L 0 s (s.flagHead f) :=
  .inner (.head s _ fun _ => ⟨rfl, rfl, rfl, rfl, rfl⟩)

/-- R87: a line is begun while a batch drains. -/
theorem State.beginSlot_moves (m : Member) (x : Slot) (hd : s.drain.activity.drains = true) (hp : .port ∈ L) :
    Moves L 0 s (s.beginSlot m x) := by
  refine .andThen (.inner (.head s _ ?_)) (.andThen (State.setDrain_moves _ _ ?_ ?_) (State.setMpa_moves _ _ hp))
  · exact fun _ => ⟨rfl, rfl, rfl, rfl, rfl⟩
  · rw [State.changeHead_eq]; exact hd.symm
  · rw [State.changeHead_eq]; rfl

theorem State.beginLine_moves (hd : s.drain.activity.drains = true) (hp : .port ∈ L) : Moves L 0 s s.beginLine := by
  unfold beginLine
  split
  · split
    · split
      · exact s.beginSlot_moves _ _ hd hp
      · exact .refl 0 s
    · exact .refl 0 s
  · exact .refl 0 s

theorem State.endLine_moves (l : LineInProgress) (hp : .port ∈ L) : Moves L 0 s (s.endLine l) := by
  unfold endLine
  have hslots (t : State) (ht : t.slots = s.slots) : Moves L 0 t
      (t.setSlots (changeSlots (·.hasKey l.member.window l.member.epoch l.line) (fun x => { x with written := true }) s.slots)) := by
    rw [← ht]
    exact .inner (.slots t _ fun x => by split <;> exact ⟨rfl, rfl, rfl, rfl, rfl⟩)
  refine (Moves.inner (.head s _ fun r => ?_)).andThen <| (hslots _ ?_).andThen (State.setMpa_moves _ _ hp)
  · split
    next f hf => exact ⟨rfl, rfl, rfl, rfl, by simp [BatchRecord.isDraining, BatchRecord.drainFields, hf]⟩
    next => exact ⟨rfl, rfl, rfl, rfl, rfl⟩
  · rw [State.changeHead_eq]; rfl

theorem State.queueEmptied_of_emptied (h : s.queue = [] ∧ s.drain.phase = .forced) : s.queueEmptied = s.setPhase .closed := if_pos h

theorem State.queueEmptied_of_not_emptied (h : ¬(s.queue = [] ∧ s.drain.phase = .forced)) : s.queueEmptied = s := if_neg h

theorem State.queueEmptied_moves : Moves L 0 s s.queueEmptied :=
  .ite (fun _ => s.setDrain_moves _ rfl rfl) fun _ => .refl 0 s

/-- R93: the order in which a completion leaves the head and changes the chain, the windows, the events and the activity does not
matter. -/
theorem State.leaveHead_comm (c : BitVec 32) (q : List BatchRecord) (ms : List Member) (n : Sequence) (torn : Bool) :
    (if torn then (((((s.setChain c).setQueue q).queueEmptied).retireMembers ms n).setEvent .batchDone).setEvent .batchTorn
      else ((((s.setChain c).setQueue q).queueEmptied).retireMembers ms n).setEvent .batchDone).setActivity .idle =
    if torn then (((((((s.setQueue q).retireMembers ms n).setActivity .idle).setChain c).queueEmptied).setEvent
      .batchDone).setEvent .batchTorn)
    else (((((s.setQueue q).retireMembers ms n).setActivity .idle).setChain c).queueEmptied).setEvent .batchDone := by
  have hemptied : ((((s.setChain c).setQueue q).queueEmptied).retireMembers ms n).setActivity .idle =
      ((((s.setQueue q).retireMembers ms n).setActivity .idle).setChain c).queueEmptied := by
    by_cases hq : q = [] ∧ s.drain.phase = .forced
    · rw [((s.setChain c).setQueue q).queueEmptied_of_emptied hq,
        ((((s.setQueue q).retireMembers ms n).setActivity .idle).setChain c).queueEmptied_of_emptied hq]
      rfl
    · rw [((s.setChain c).setQueue q).queueEmptied_of_not_emptied hq,
        ((((s.setQueue q).retireMembers ms n).setActivity .idle).setChain c).queueEmptied_of_not_emptied hq]
      rfl
  rw [← hemptied]
  cases torn <;> rfl

/-- R93: a completion is its move, the chain, the phase and the events, and what follows the freeing. -/
theorem State.completeBatch_eq {r : BatchRecord} {f : DrainFields} (h : s.drainingHead = some (r, f)) :
    s.completeBatch =
      (if r.flags.torn then
          ((((s.completed r f).setChain (foldChain s.chain (crc32cFinal f.crc))).queueEmptied).setEvent .batchDone).setEvent .batchTorn
        else (((s.completed r f).setChain (foldChain s.chain (crc32cFinal f.crc))).queueEmptied).setEvent .batchDone).afterFreeing
        (s.freedCount (Slot.inBatch r.members)) := by
  unfold completeBatch
  rw [h]
  have hlog : (s.freeSlots (Slot.inBatch r.members)).log = s.log := rfl
  have hchain : (s.freeSlots (Slot.inBatch r.members)).chain = s.chain := rfl
  have hqueue : (s.freeSlots (Slot.inBatch r.members)).queue = s.queue := rfl
  simp only [hlog, hchain, hqueue, setLog_chain, setChain_queue, setLog_queue]
  rw [leaveHead_comm, completed]

theorem State.completeBatch_moves (hL : drainLabels ⊆ L) : Moves L 0 s s.completeBatch := by
  cases h : s.drainingHead with
  | none => simp only [completeBatch, h]; exact .refl 0 s
  | some k =>
    rw [s.completeBatch_eq h]
    have hdone := (Moves.inner (L := L) (.complete s k.1 k.2 h)).andThen <|
      (Moves.inner (.chain _ (foldChain s.chain (crc32cFinal k.2.crc)))).andThen <|
      (State.queueEmptied_moves _).andThen (State.setEvent_moves _ (e := .batchDone) (hL (by decide)))
    exact (Moves.ite (fun _ => hdone.andThen (State.setEvent_moves _ (hL (by decide)))) fun _ => hdone).andThen
      (State.afterFreeing_moves _ _ (hL (by decide)))

/-- The activity before a completion does not matter to it. -/
theorem State.completeBatch_setActivity (a : DrainActivity) (h : s.drainingHead.isSome = true) :
    (s.setActivity a).completeBatch = s.completeBatch := by
  obtain ⟨k, hk⟩ := Option.isSome_iff_exists.mp h
  rw [s.completeBatch_eq hk, (s.setActivity a).completeBatch_eq (r := k.1) (f := k.2) hk]
  rfl

end
end Sys2Proof.Machine
end

section
/-! Every command is a run of moves, continued: the drain engine's starts, the requests, the link, and the commands themselves. -/

namespace Sys2Proof.Machine

section
variable {L : List Label} (s : State)

theorem State.setPhase_moves (p : DrainPhase) : Moves L 0 s (s.setPhase p) := s.setDrain_moves _ rfl rfl

theorem State.setBegun_moves (b : Bool) : Moves L 0 s (s.setBegun b) := s.setDrain_moves _ rfl rfl

theorem State.setTimer_moves (t : StarvationTimer) : Moves L 0 s (s.setTimer t) := s.setDrain_moves _ rfl rfl

theorem State.waitForLog_moves (hd : s.drain.activity.drains = false) (hL : drainLabels ⊆ L) : Moves L 0 s s.waitForLog := by
  unfold waitForLog
  split
  · exact .refl 0 s
  · exact (s.setDrain_moves { s.drain with activity := .waitLog } hd.symm rfl).andThen
      (State.setEvent_moves _ (e := .logFull) (hL (by decide)))

/-- R85: the head reserved, and the engine at work on it. -/
theorem State.reserveHead_moves {r : BatchRecord} {rest : List BatchRecord} (hq : s.queue = r :: rest) (hr : r.isQueued = true)
    (hl : s.log.freeEntries ≠ 0) (hd : s.drain.activity.drains = false) (d : DrainEngine) (ha : d.activity.drains = true)
    (hc : d.frameCount = s.drain.frameCount) : Moves L 0 s ((s.reserveHead r).setDrain d) :=
  .inner (.begin s r rest d hq hr hl hd ha hc)

/-- R85: the head after its reservation is DRAINING from the first line of its order. -/
theorem State.reserveHead_drainingHead {r : BatchRecord} {rest : List BatchRecord} (hq : s.queue = r :: rest) :
    (s.reserveHead r).drainingHead =
      some ({ r with state := .draining { resume := (drainOrder s.slots r.members).head?, lines := 0, bytes := 0,
                                          crc := crc32cInit } },
        { resume := (drainOrder s.slots r.members).head?, lines := 0, bytes := 0, crc := crc32cInit }) := by
  rw [drainingHead_eq_some]
  refine ⟨rest, ?_, rfl⟩
  simp [reserveHead, changeHead_eq, hq]

/-- R85: a reservation leaves every slot its key, so the slot of the first line is found. -/
theorem State.reserveHead_slotAt (r : BatchRecord) (p : Member × Nat) :
    (s.reserveHead r).slotAt p =
      (s.slotAt p).map fun x => if x.inBatch r.members then { x with status := .draining } else x := by
  have hkey : ∀ x : Slot, (if x.inBatch r.members = true then { x with status := .draining } else x).hasKey p.1.window p.1.epoch p.2 =
      x.hasKey p.1.window p.1.epoch p.2 := by
    intro x
    split <;> rfl
  have hslots : (s.reserveHead r).slots = s.slots.map fun x => if x.inBatch r.members then { x with status := .draining } else x := by
    simp [reserveHead, changeSlots]
  rw [slotAt, slotAt, hslots, findSlot, findSlot, List.find?_map]
  simp only [Function.comp_def, hkey]

theorem State.changeHead_setDrain (f : BatchRecord → BatchRecord) (d : DrainEngine) :
    (s.changeHead f).setDrain d = (s.setDrain d).changeHead f := by
  rw [changeHead_eq, changeHead_eq]
  rfl

/-- R85: a head with lines is started, and its first line begun. -/
theorem State.startHead_moves {r : BatchRecord} {rest : List BatchRecord} (hq : s.queue = r :: rest) (hr : r.isQueued = true)
    (hl : s.log.freeEntries ≠ 0) (hd : s.drain.activity.drains = false) (hlines : drainOrder s.slots r.members ≠ [])
    (hp : .port ∈ L) : Moves L 0 s (s.reserveHead r).beginLine := by
  obtain ⟨p, order, horder⟩ := List.exists_cons_of_ne_nil hlines
  obtain ⟨x, hx⟩ := slotAt_of_mem_drainOrder s r.members p (by rw [horder]; exact List.mem_cons_self)
  have hbegin : (s.reserveHead r).beginLine =
      (s.reserveHead r).beginSlot p.1 (if x.inBatch r.members then { x with status := .draining } else x) := by
    rw [beginLine, s.reserveHead_drainingHead hq]
    simp only [horder, List.head?_cons, reserveHead_slotAt, hx, Option.map_some]
  rw [hbegin]
  have hcount : (s.reserveHead r).drain.frameCount = s.drain.frameCount := by simp [reserveHead, changeHead_eq]
  rw [beginSlot, changeHead_setDrain]
  refine .andThen (.andThen (s.reserveHead_moves hq hr hl hd _ ?_ ?_) (.inner (.head _ _ ?_))) (State.setMpa_moves _ _ hp)
  · rfl
  · exact hcount
  · exact fun _ => ⟨rfl, rfl, rfl, rfl, rfl⟩

end

/-! ### The start conditions -/

section
variable {s : State}

theorem State.startable_of_nil (hq : s.queue = []) : s.startable = false := by rw [startable, hq]

/-- R83: a head that may start is QUEUED. -/
theorem State.isQueued_of_startable {r : BatchRecord} {rest : List BatchRecord} (hq : s.queue = r :: rest)
    (h : s.startable = true) : r.isQueued = true := by
  rw [startable, hq, Bool.and_eq_true] at h
  exact h.1

/-- R83: an engine at work on a batch starts no other. -/
theorem State.testStart_of_drains (n : Nat) (hd : s.drain.activity.drains = true) : State.testStart n s = s := by
  cases n with
  | zero => rfl
  | succ n =>
    unfold testStart
    cases ha : s.drain.activity with
    | writing _ | held => rfl
    | idle | waitLog => rw [ha] at hd; cases hd

section
variable (n : Nat) (hd : s.drain.activity.drains = false)
include hd

/-- R83: where the conditions fail the engine is IDLE. -/
theorem State.testStart_of_not_startable (h : s.startable = false) : State.testStart (n + 1) s = s.setActivity .idle := by
  unfold testStart
  cases ha : s.drain.activity with
  | writing _ | held => rw [ha] at hd; cases hd
  | idle | waitLog => cases hq : s.queue <;> simp [h]

/-- R83 to R85, R94: what a head that may start does. -/
theorem State.testStart_of_startable {r : BatchRecord} {rest : List BatchRecord} (hq : s.queue = r :: rest)
    (h : s.startable = true) :
    State.testStart (n + 1) s =
      if s.log.freeEntries = 0 then s.waitForLog
      else if drainOrder s.slots r.members = [] then State.testStart n (s.reserveHead r).completeBatch
      else (s.reserveHead r).beginLine := by
  rw [testStart]
  cases ha : s.drain.activity with
  | writing _ | held => rw [ha] at hd; cases hd
  | idle | waitLog => simp only [hq, h, if_true]

end
end

section
variable {L : List Label} (s : State)

/-- R85: an empty head is started and completes at once. -/
theorem State.completeHead_moves {r : BatchRecord} {rest : List BatchRecord} (hq : s.queue = r :: rest) (hr : r.isQueued = true)
    (hl : s.log.freeEntries ≠ 0) (hd : s.drain.activity.drains = false) (hL : drainLabels ⊆ L) :
    Moves L 0 s (s.reserveHead r).completeBatch := by
  have hsome : (s.reserveHead r).drainingHead.isSome = true := by rw [s.reserveHead_drainingHead hq]; rfl
  rw [← completeBatch_setActivity _ .held hsome]
  exact (s.reserveHead_moves hq hr hl hd { (s.reserveHead r).drain with activity := .held } rfl
    (by simp [reserveHead, changeHead_eq])).andThen (State.completeBatch_moves _ hL)

theorem State.testStart_moves (n : Nat) (hL : drainLabels ⊆ L) : Moves L 0 s (State.testStart n s) := by
  induction n generalizing s with
  | zero => exact .refl 0 s
  | succ n ih =>
    cases hd : s.drain.activity.drains with
    | true => rw [State.testStart_of_drains _ hd]; exact .refl 0 s
    | false =>
      cases hs : s.startable with
      | false => rw [State.testStart_of_not_startable n hd hs]; exact s.setDrain_moves _ hd.symm rfl
      | true =>
        cases hq : s.queue with
        | nil => rw [State.startable_of_nil hq] at hs; cases hs
        | cons r rest =>
          have hr := State.isQueued_of_startable hq hs
          rw [State.testStart_of_startable n hd hq hs]
          exact .ite (fun _ => s.waitForLog_moves hd hL) fun hl => .ite
            (fun _ => (s.completeHead_moves hq hr hl hd hL).andThen (ih _))
            fun hlines => s.startHead_moves hq hr hl hd hlines (hL (by decide))

theorem State.startBatches_moves (hL : drainLabels ⊆ L) : Moves L 0 s s.startBatches := s.testStart_moves _ hL

theorem State.afterLine_moves (wipeNext : Bool) (hd : s.drain.activity.drains = true) (hL : drainLabels ⊆ L) :
    Moves L 0 s (s.afterLine wipeNext) := by
  have hbegin : Moves L 0 s s.beginLine := s.beginLine_moves hd (hL (by decide))
  have hheld (t : State) (ht : t.drain.activity.drains = true) : Moves L 0 t (t.setActivity .held) :=
    t.setDrain_moves _ ht.symm rfl
  unfold afterLine
  split
  · split
    · exact .ite (fun _ => s.completeBatch_moves hL) fun _ => (s.completeBatch_moves hL).andThen (State.startBatches_moves _ hL)
    · split
      · exact hbegin
      · exact hheld s hd
      · split
        · refine .ite (fun _ => hbegin) fun _ => (s.flagHead_moves _).andThen (hheld _ ?_)
          rw [flagHead, changeHead_eq]
          exact hd
        · exact .refl 0 s
  · exact .refl 0 s

theorem State.proceed_moves (hL : drainLabels ⊆ L) : Moves L 0 s s.proceed := by
  unfold proceed
  split
  next ha => exact s.beginLine_moves (by rw [ha]; rfl) (hL (by decide))
  · exact .refl 0 s
  · exact s.startBatches_moves hL
  · exact s.startBatches_moves hL

theorem State.expireStarvation_moves (hL : drainLabels ⊆ L) (he : .event .starved ∈ L) : Moves L 0 s s.expireStarvation := by
  have hstarved := (s.setTimer_moves (L := L) (s.drain.timer.expire s.config.starvationLimit.toNat)).andThen
    (State.setEvent_moves _ he)
  refine .ite (fun _ => hstarved.andThen ?_) fun _ => hstarved
  exact (State.setPhase_moves _ _).andThen <| (State.setBegun_moves _ _).andThen (State.proceed_moves _ hL)

/-- R71, R166: WIPE is the other blocks' part and the answer of a held beat. -/
theorem State.wipeBlocks_eq : s.wipeBlocks = if s.hpi.held.isSome then s.wiped.answerBeat true none else s.wiped := by
  have hh : (((s.stopDraining.setQueue []).setSlots []).setWindows (Vector.replicate 16 .free)).hpi = s.hpi := by
    unfold stopDraining
    split <;> rfl
  have hdrain : (((s.stopDraining.setQueue []).setSlots []).setWindows (Vector.replicate 16 .free)).drain = s.drain := by
    unfold stopDraining
    split <;> rfl
  unfold wipeBlocks wiped
  dsimp only
  generalize (((s.stopDraining.setQueue []).setSlots []).setWindows (Vector.replicate 16 .free)) = t at *
  rw [← hh, ← hdrain]
  cases hheld : t.hpi.held with
  | none => rfl
  | some h =>
    obtain ⟨x, hx, -⟩ := (Hpi.held_eq_some _ _).mp hheld
    rw [if_pos (Option.isSome_some), t.answerBeat_eq x _ _ hx, answerBeat_eq _ x _ _ (by exact hx)]
    rfl

theorem State.wipeBlocks_moves : Moves L 0 s s.wipeBlocks := by
  rw [wipeBlocks_eq]
  have hwiped : Moves L 0 s s.wiped := .inner (.wipe s)
  exact .ite (fun _ => hwiped.andThen (State.answerBeat_moves _ _ _)) fun _ => hwiped

/-- The activity before a WIPE does not matter to its effect. -/
theorem State.wipeBlocks_setActivity (a : DrainActivity) : (s.setActivity a).wipeBlocks = s.wipeBlocks := by
  rw [wipeBlocks_eq, wipeBlocks_eq]
  have hwiped : (s.setActivity a).wiped = s.wiped := by
    unfold wiped stopDraining
    have hd : (s.setActivity a).drainingHead = s.drainingHead := rfl
    rw [hd]
    split <;> rfl
  rw [hwiped]
  rfl

end
end Sys2Proof.Machine
end

section
/-! Every command is a run of moves, completed: the requests, the link, and the commands themselves with their labels. -/

namespace Sys2Proof.Machine

/-! ## The requests -/

/-- What a request of each kind may do, but for the places of the response queue. -/
def Kind.labels : Kind → List Label
  | .configSet => .event .starved :: .event .stallTimeout :: .event .writeLost :: drainLabels
  | .winAbort => [.port]
  | .close => .close :: drainLabels
  | .cancel | .logRead => drainLabels
  | .eventAck => [.acknowledge]
  | .ident | .status | .configGet | .wipe | .setLimit | .resync | .winDefine | .winStart | .winRelease | .winQuery | .sigReset => []

section
variable {L : List Label} (s : State)

/-- A change of the link controller that claims no ninth place and sets no limit. -/
theorem State.setSlc_moves (x : Slc) (hps : x.responses.length ≤ s.slc.responses.length ∨ x.responses.length ≤ 8)
    (hls : x.limits = s.slc.limits) : Moves L 0 s (s.setSlc x) :=
  .inner (.slc s x hps fun _ => .inl (by simp only [hls]))

theorem State.endForced_moves : Moves L 0 s s.endForced := by
  have hclosed : Moves L 0 s (s.setPhase .closed) := s.setPhase_moves _
  unfold endForced
  dsimp only
  split
  next ha => exact hclosed.andThen (State.setDrain_moves _ _ (by rw [setPhase_drain]; simp only [ha]; rfl) rfl)
  · exact .ite (fun _ => hclosed.andThen (State.flagHead_moves _ _)) fun _ => hclosed
  · exact hclosed

theorem State.applyForce_moves : Moves L 0 s s.applyForce := .ite (fun _ => s.endForced_moves) fun _ => .refl 0 s

theorem State.applyStarvationLimit_moves (old : BitVec 16) (hL : drainLabels ⊆ L) (he : .event .starved ∈ L) :
    Moves L 0 s (s.applyStarvationLimit old) :=
  .ite (fun _ => s.setTimer_moves _) fun _ => .ite (fun _ => s.expireStarvation_moves hL he) fun _ => .refl 0 s

theorem State.applyStallLimit_moves (old : BitVec 16) (ht : .event .stallTimeout ∈ L) (hl : .event .writeLost ∈ L) :
    Moves L 0 s (s.applyStallLimit old) := by
  unfold applyStallLimit
  split
  · exact .ite (fun _ => s.expireStall_moves ht hl) fun _ => .refl 0 s
  · exact .refl 0 s

theorem State.applyConfig_moves (c : ConfigRecord) (hL : Kind.configSet.labels ⊆ L) : Moves L 0 s (s.applyConfig c) := by
  have hdrain : drainLabels ⊆ L := fun _ h => hL (by simp only [Kind.labels, List.mem_cons, h, or_true])
  exact (Moves.inner (.config s c)).andThen <| (State.applyForce_moves _).andThen <|
    (State.applyStarvationLimit_moves _ _ hdrain (hL (by decide))).andThen <|
    (State.applyStallLimit_moves _ _ (hL (by decide)) (hL (by decide))).andThen (State.arbitrate_moves _ (hL (by decide)))

theorem State.cancelBatch_moves {r : BatchRecord} (hr : s.queue.find? (·.seq = r.seq) = some r) (hd : r.isDraining = false)
    (hl : s.log.freeEntries ≠ 0) (hL : drainLabels ⊆ L) : Moves L 0 s (s.cancelBatch r) := by
  have hremoved := (Moves.inner (L := L) (.cancel s r hr hd hl)).andThen <| (State.queueEmptied_moves _).andThen
    (State.afterFreeing_moves _ (s.freedCount (Slot.inBatch r.members)) (hL (by decide)))
  exact (Moves.ite (fun _ => hremoved.andThen (State.startBatches_moves _ hL)) fun _ => hremoved).andThen
    (State.arbitrate_moves _ (hL (by decide)))

theorem State.takeRecords_moves (n : Nat) (hL : drainLabels ⊆ L) : Moves L 0 s (s.takeRecords n) := by
  have hdropped : Moves L 0 s (s.setLog { s.log with records := s.log.records.drop n }) := .inner (.dropLog s n)
  unfold takeRecords
  dsimp only
  split
  · exact .ite (fun _ => hdropped.andThen <| (State.startBatches_moves _ hL).andThen (State.arbitrate_moves _ (hL (by decide))))
      fun _ => hdropped
  · exact hdropped

theorem State.queueFilled_moves (hL : drainLabels ⊆ L) : Moves L 0 s s.queueFilled :=
  (s.setTimer_moves _).andThen <| (State.startBatches_moves _ hL).andThen (State.arbitrate_moves _ (hL (by decide)))

theorem requestConfigSet_moves (body : FrameBody) : Moves Kind.configSet.labels 0 s (requestConfigSet body s).1 := by
  unfold requestConfigSet longForm3
  split
  · dsimp only
    split
    · exact .refl 0 s
    · split
      · exact .refl 0 s
      · exact s.applyConfig_moves _ (List.Subset.refl _)
  · exact .refl 0 s

theorem requestSetLimit_moves (ch : Channel) (body : FrameBody) : Moves L 0 s (requestSetLimit ch body s).1 := by
  unfold requestSetLimit shortForm
  split
  · dsimp only
    split
    · exact .refl 0 s
    next a h =>
      refine .inner (.slc s _ (.inl le_rfl) fun c => ?_)
      rw [Vector.getElem_set]
      split
      · exact .inr (by omega)
      · exact .inl rfl
  · exact .refl 0 s

theorem requestWinDefine_moves (ch : Channel) (body : FrameBody) : Moves L 0 s (requestWinDefine ch body s).1 := by
  unfold requestWinDefine longForm5
  split
  · dsimp only
    split
    · exact .refl 0 s
    next w d _ =>
      split_ifs with ha hfree hover
      · exact .refl 0 s
      · exact .refl 0 s
      · exact .refl 0 s
      · refine .inner (.define s w d ?_ (Bool.eq_false_iff.mpr hover))
        cases hw : s.win w <;> simp [hw, WindowEntry.isFree] at hfree
        rfl
  · exact .refl 0 s

/-- A request about one window is a run of moves when its part for each window is. -/
theorem windowForm_moves {n : Nat} (body : FrameBody) (k : WindowNo → State × Reply) (hk : ∀ w, Moves L n s (k w).1) :
    Moves L n s (windowForm body s k).1 := by
  unfold windowForm shortForm
  split
  · dsimp only
    split
    · exact hk _
    · exact .refl n s
  · exact .refl n s

theorem requestWinStart_moves (ch : Channel) (body : FrameBody) : Moves L 0 s (requestWinStart ch body s).1 :=
  windowForm_moves s body _ fun w => by
    split
    · exact .refl 0 s
    · split
      next d e hw => exact .inner (.start s w d e hw)
      · exact .refl 0 s

theorem requestWinRelease_moves (ch : Channel) (body : FrameBody) : Moves L 0 s (requestWinRelease ch body s).1 :=
  windowForm_moves s body _ fun w => by
    split
    · exact .refl 0 s
    · split
      next d e hw => exact .inner (.free s w d e hw)
      · exact .refl 0 s

theorem requestWinAbort_moves (ch : Channel) (body : FrameBody) : Moves Kind.winAbort.labels 0 s (requestWinAbort ch body s).1 :=
  windowForm_moves s body _ fun w => by
    split_ifs with ho hc
    · exact .refl 0 s
    · exact .refl 0 s
    · exact (Moves.inner (.abort s w (by simpa using hc))).andThen <|
        (State.retryAfter_moves _ _ (by decide)).andThen (State.arbitrate_moves _ (by decide))

theorem requestClose_moves (ch : Channel) (body : FrameBody) : Moves Kind.close.labels 1 s (requestClose ch body s).1 := by
  unfold requestClose longForm1
  split
  · dsimp only
    split
    · exact .refl 1 s
    next retire mask _ =>
      split_ifs with ho hc hf hv hq
      · exact .refl 1 s
      · exact .refl 1 s
      · exact .refl 1 s
      · exact .refl 1 s
      all_goals
        have hclosed := Moves.labelled (L := Kind.close.labels)
          (Move.close s retire mask (by simpa using hc) (Nat.not_le.mp hf)) (by decide)
      · exact hclosed.trans (State.queueFilled_moves _ (by decide))
      · exact hclosed
  · exact .refl 1 s

theorem requestCancel_moves (body : FrameBody) : Moves Kind.cancel.labels 0 s (requestCancel body s).1 := by
  unfold requestCancel longForm1
  split
  · dsimp only
    split
    · exact .refl 0 s
    next q _ =>
      split_ifs with hl
      · exact .refl 0 s
      · split
        next r hr =>
          have hseq : r.seq = q := by simpa using List.find?_some hr
          split_ifs with hd
          · exact .refl 0 s
          · exact s.cancelBatch_moves (by rw [hseq]; exact hr) (Bool.eq_false_iff.mpr hd) hl (List.Subset.refl _)
        · exact .refl 0 s
  · exact .refl 0 s

theorem requestLogRead_moves (ch : Channel) (body : FrameBody) : Moves Kind.logRead.labels 0 s (requestLogRead ch body s).1 := by
  unfold requestLogRead shortForm
  split
  · dsimp only
    split
    · exact .refl 0 s
    · exact s.takeRecords_moves _ (List.Subset.refl _)
  · exact .refl 0 s

theorem requestEventAck_moves (body : FrameBody) : Moves Kind.eventAck.labels 0 s (requestEventAck body s).1 := by
  unfold requestEventAck longForm1
  split
  · dsimp only
    split
    · exact .refl 0 s
    next named _ => exact .labelled (.acknowledge s named) (by decide)
  · exact .refl 0 s

/-- R144: the effect of a request, its place aside. -/
theorem requestOf_moves (k : Kind) (ch : Channel) (body : FrameBody) {f : State → State × Reply} (hf : requestOf k ch body = some f) :
    Moves k.labels 1 s (f s).1 := by
  have hzero {t : State} (h : Moves k.labels 0 s t) : Moves k.labels 1 s t := h.mono (List.Subset.refl _) (by decide)
  have hsame (r : Reply) : Moves k.labels 1 s (shortForm body s fun _ => (s, r)).1 := by
    cases body <;> exact .refl 1 s
  cases k <;> simp only [requestOf, Option.some.injEq, reduceCtorEq] at hf <;> subst hf
  · exact hsame _
  · exact hsame _
  · exact hsame _
  · exact hzero (requestConfigSet_moves s body)
  · exact hzero (requestSetLimit_moves s ch body)
  · exact hzero (requestWinDefine_moves s ch body)
  · exact hzero (requestWinStart_moves s ch body)
  · exact hzero (requestWinRelease_moves s ch body)
  · exact windowForm_moves s body _ fun _ => .refl 1 s
  · exact hzero (requestWinAbort_moves s ch body)
  · exact requestClose_moves s ch body
  · exact hzero (requestCancel_moves s body)
  · exact hzero (requestLogRead_moves s ch body)
  · cases body with
    | short a => exact hzero (.inner (.chain s 0))
    | long ws => exact .refl 1 s
  · exact hzero (requestEventAck_moves s body)

/-! ## The command path -/

theorem State.setResponses_moves (ps : List Place) (h : ps.length ≤ s.slc.responses.length ∨ ps.length ≤ 8) :
    Moves L 0 s (s.setResponses ps) := s.setSlc_moves _ h rfl

theorem State.fill_moves (ch : Channel) (tag : Tag) (reply : Reply) : Moves L 0 s (s.fill ch tag reply) :=
  s.setResponses_moves _ (.inl (fillFirst_length _ _).le)

theorem State.makeWipeEffect_moves : Moves L 0 s s.makeWipeEffect := by
  have hfilled (t : State) (c : Word) : Moves L 0 t (t.fillWipe c) := by
    unfold fillWipe
    split
    · exact t.fill_moves _ _ _
    · exact .refl 0 t
  exact s.wipeBlocks_moves.andThen <| (hfilled _ _).andThen (State.setSlc_moves _ _ (.inl le_rfl) rfl)

theorem State.takeWipe_moves (f : Frame) : Moves L 0 s (s.takeWipe f) := by
  unfold takeWipe
  split
  · exact s.fill_moves _ _ _
  · split
    · exact s.setSlc_moves _ (.inl le_rfl) rfl
    · exact s.makeWipeEffect_moves

theorem State.takeResync_moves (f : Frame) : Moves L 0 s (s.takeResync f) := by
  unfold takeResync
  split
  · exact s.fill_moves _ _ _
  · exact s.setSlc_moves _ (.inl ((fillFirst_length _ _).trans_le (dropFilled_length_le _))) rfl

/-- What a request that claimed a place may do. -/
def Request.labels : Request → List Label
  | .refused _ _ _ => []
  | .frame f => (kindOfCode f.kind).elim [] Kind.labels

theorem State.takeRequest_moves (q : Request) : Moves q.labels 1 s (s.takeRequest q) := by
  have hzero {t : State} (h : Moves q.labels 0 s t) : Moves q.labels 1 s t := h.mono (List.Subset.refl _) (by decide)
  cases q with
  | refused ch tag why => exact hzero (s.fill_moves _ _ _)
  | frame f =>
    cases hk : kindOfCode f.kind with
    | none => simp only [takeRequest, hk]; exact hzero (s.fill_moves _ _ _)
    | some k =>
      have hlabels : (Request.frame f).labels = k.labels := by simp only [Request.labels, hk, Option.elim_some]
      cases hf : requestOf k f.ch f.body with
      | some g =>
        have htaken := takeRequest_frame k f.ch f.tag f.body g hf s
        rw [code_of_kindOfCode hk] at htaken
        rw [hlabels, htaken]
        exact (requestOf_moves s k f.ch f.body hf).trans (State.fill_moves _ _ _ _)
      | none =>
        simp only [takeRequest, hk]
        cases k <;> simp only [requestOf, reduceCtorEq] at hf
        · exact hzero (s.takeWipe_moves f)
        · exact hzero (s.takeResync_moves f)

theorem State.runCommands_moves (n : Nat) (hL : ∀ q : Request, q.labels ⊆ L) : Moves L n s (State.runCommands n s) := by
  induction n generalizing s with
  | zero => exact .refl 0 s
  | succ n ih =>
    unfold runCommands
    split
    · exact .refl _ s
    · split
      next q _ =>
        have htaken := ((s.takeRequest_moves q).mono (hL q) le_rfl).trans (ih (s.takeRequest q))
        exact htaken.mono (List.Subset.refl _) (Nat.add_comm 1 n).le
      · exact .refl _ s

/-- R144: after a request taken with no other waiting, the command path is at rest or a WIPE waits. -/
theorem State.takeRequest_rests (q : Request) {t : State} {ps : List Place} (ht : t.slc.responses = ps ++ [.awaiting q])
    (hps : firstAwaiting ps = none) :
    firstAwaiting (t.takeRequest q).slc.responses = none ∨ (t.takeRequest q).slc.wipeTaken = true := by
  have hfill (u : State) (ch : Channel) (tag : Tag) (reply : Reply) (hu : u.slc.responses = ps ++ [.awaiting q]) :
      firstAwaiting (u.fill ch tag reply).slc.responses = none := by
    simp only [fill, setResponses_slc, hu, fillFirst_append _ _ _ hps, firstAwaiting_append_filled _ _ hps]
  cases q with
  | refused ch tag why => exact .inl (hfill t ch tag _ ht)
  | frame f =>
    cases hk : kindOfCode f.kind with
    | none => simp only [takeRequest, hk]; exact .inl (hfill t _ _ _ ht)
    | some k =>
      cases hf : requestOf k f.ch f.body with
      | some g =>
        have htaken := takeRequest_frame k f.ch f.tag f.body g hf t
        rw [code_of_kindOfCode hk] at htaken
        rw [htaken]
        exact .inl (hfill _ _ _ _ (((requestOf_blind k f.ch f.body g hf).2 t).1.trans ht))
      | none =>
        simp only [takeRequest, hk]
        cases k <;> simp only [requestOf, reduceCtorEq] at hf
        · simp only [execute, takeWipe]
          split
          · exact .inl (hfill t _ _ _ ht)
          · split
            · exact .inr rfl
            · have hslc : t.wipeBlocks.slc = t.slc := (t.aside_frame (f := State.wipeBlocks) fun x p => t.wipeBlocks_aside x p).1
              have hfirst : firstAwaiting t.wipeBlocks.slc.responses = some (.frame f) := by
                rw [hslc, ht]; exact firstAwaiting_append_awaiting _ _ hps
              refine .inl ?_
              simp only [makeWipeEffect, fillWipe, hfirst, setSlc_slc]
              exact hfill _ _ _ _ (by rw [hslc, ht])
        · simp only [execute, takeResync]
          split
          · exact .inl (hfill t _ _ _ ht)
          · refine .inl ?_
            simp only [setSlc_slc, ht, dropFilled_append _ _ hps]
            rfl

/-- R143, R144: a complete frame at a command path where no request waits. -/
theorem State.accept_moves_of_rest (q : Request) (hs : firstAwaiting s.slc.responses = none) (hL : q.labels ⊆ L)
    (he : .event .linkOverrun ∈ L) : Moves L 1 s (s.accept q) := by
  have hzero {t : State} (h : Moves L 0 s t) : Moves L 1 s t := h.mono (List.Subset.refl _) (by decide)
  by_cases hfull : 8 ≤ s.slc.responses.length
  · rw [s.accept_full q hfull]; exact hzero (s.setEvent_moves he)
  have hroom : s.slc.responses.length < 8 := Nat.not_le.mp hfull
  have hclaimed : Moves L 0 s (s.setResponses (s.slc.responses ++ [.awaiting q])) :=
    s.setResponses_moves _ (.inr (by simpa using hroom))
  cases hw : s.slc.wipeTaken with
  | true => rw [s.accept_behind q hroom hw]; exact hzero hclaimed
  | false =>
    have htaken : s.accept q =
        State.runCommands s.slc.responses.length ((s.setResponses (s.slc.responses ++ [.awaiting q])).takeRequest q) := by
      have hplaces : ¬Config.responsePlaces ≤ s.slc.responses.length := hfull
      simp only [accept, hplaces, if_false, commandPath, setResponses_slc, List.length_append, List.length_singleton, runCommands,
        hw, firstAwaiting_append_awaiting _ q hs]
      rfl
    rw [htaken]
    have hrest : State.runCommands s.slc.responses.length ((s.setResponses (s.slc.responses ++ [.awaiting q])).takeRequest q) =
        (s.setResponses (s.slc.responses ++ [.awaiting q])).takeRequest q :=
      (State.takeRequest_rests q (by rfl) hs).elim (runCommands_idle _ _) (runCommands_wipe _ _)
    rw [hrest]
    exact hclaimed.andThen ((State.takeRequest_moves _ q).mono hL le_rfl)

/-- R143, R144: a complete frame, whatever waits. -/
theorem State.accept_moves (q : Request) (hL : ∀ q : Request, q.labels ⊆ L) (he : .event .linkOverrun ∈ L) :
    Moves L 8 s (s.accept q) := by
  refine .ite (fun _ => (s.setEvent_moves he).mono (List.Subset.refl _) (by decide)) fun hplaces => ?_
  have hroom : s.slc.responses.length < 8 := Nat.not_le.mp hplaces
  have hclaimed : Moves L 0 s (s.setResponses (s.slc.responses ++ [.awaiting q])) :=
    s.setResponses_moves _ (.inr (by simpa using hroom))
  exact hclaimed.andThen ((State.runCommands_moves _ _ hL).mono (List.Subset.refl _) (by simpa using hroom))

theorem State.finishWipe_moves (hL : ∀ q : Request, q.labels ⊆ L) :
    Moves L s.makeWipeEffect.slc.responses.length s s.finishWipe :=
  s.makeWipeEffect_moves.andThen (State.runCommands_moves _ _ hL)

end
end Sys2Proof.Machine
end

section
/-! The commands themselves: each a run of moves with the labels of its own. -/

namespace Sys2Proof.Machine

section
variable {L : List Label} (s : State)

theorem State.setActivity_moves (a : DrainActivity) (ha : a.drains = s.drain.activity.drains) : Moves L 0 s (s.setActivity a) :=
  s.setDrain_moves _ ha rfl

/-! ## The link's own commands -/

theorem State.setAssembler_moves (a : Assembler) : Moves L 0 s (s.setAssembler a) := s.setSlc_moves _ (.inl le_rfl) rfl

theorem State.failHeader_moves (he : .event .linkError ∈ L) : Moves L 0 s s.failHeader := by
  unfold failHeader
  exact .andThen (s.setSlc_moves _ (.inl (by simp)) (by simp)) (State.setEvent_moves _ he)

theorem State.popResponse_moves (b : Byte) : Moves L 0 s (s.popResponse b) :=
  s.setSlc_moves _ (.inl (by simp)) rfl

theorem State.sendByte_moves : Moves L 0 s s.sendByte := by
  unfold sendByte
  split
  · exact .refl 0 s
  · split
    · exact .ite (fun _ => s.setSlc_moves _ (.inl le_rfl) rfl) fun _ => s.popResponse_moves _
    · exact s.setSlc_moves _ (.inl le_rfl) rfl

theorem State.sendRest_moves : Moves L 0 s s.sendRest := by
  rcases s.sendRest_cases with h | ⟨r, rest, -, -, -, h⟩ <;> rw [h]
  · exact .refl 0 s
  · exact s.popResponse_moves _

theorem State.startPeriod_moves : Moves L 0 s s.startPeriod :=
  (Moves.inner (.pins s s.quiet false)).andThen (State.setSlc_moves _ _ (.inl le_rfl) rfl)

theorem State.endPeriod_moves (he : .event .linkError ∈ L) : Moves L 0 s s.endPeriod := by
  have hdiscarded (t : State) : Moves L 0 t t.discardFrame := by
    unfold discardFrame
    split
    · exact t.setEvent_moves he
    · exact t.setEvent_moves he
    · exact .refl 0 t
  exact (Moves.inner (.pins s s.quiet true)).andThen <| (hdiscarded _).andThen (State.setSlc_moves _ _ (.inl le_rfl) rfl)

theorem State.afterFormFault_moves (fault : FormFault) : Moves L 0 s (s.afterFormFault fault) := by
  cases fault <;> exact s.setAssembler_moves _

/-- R138: a received byte moves the assembler, or it completes a frame. -/
theorem State.receiveByte_moves (b : Byte) {n : Nat} (he : .event .linkError ∈ L)
    (haccept : ∀ (u : State) (q : Request), u.slc.responses = s.slc.responses → Moves L n u (u.accept q)) :
    Moves L n s (s.receiveByte b) := by
  have hset (a : Assembler) : Moves L n s (s.setAssembler a) := (s.setAssembler_moves a).mono (List.Subset.refl _) n.zero_le
  have hthen (a : Assembler) (q : Request) : Moves L n s ((s.setAssembler a).accept q) :=
    (s.setAssembler_moves a).andThen (haccept _ q rfl)
  unfold receiveByte
  split
  · exact .refl n s
  · exact .refl n s
  · exact .ite (fun _ => .refl n s) fun _ => hset _
  · split
    · exact .ite (fun _ => (s.failHeader_moves he).mono (List.Subset.refl _) n.zero_le) fun _ => .ite
        (fun _ => .ite (fun _ => hthen _ _) fun _ => hset _) fun _ => .ite (fun _ => hthen _ _) fun _ => hthen _ _
    · exact hset _
  · exact .ite (fun _ => hset _) fun _ => hthen _ _

/-! ## The commands of the drain engine and the host port -/

theorem State.quietEnd_moves : Moves L 0 s s.quietEnd := by
  have hlow : Moves L 0 s (s.setQuiet false) := .inner (.pins s false s.lsel)
  refine .ite (fun _ => hlow.andThen <| (State.setPhase_moves (s.setQuiet false) .closed).andThen ?_) fun _ => hlow
  generalize (s.setQuiet false).setPhase .closed = t
  unfold quietEndActivity
  split
  next ha => exact t.setDrain_moves _ (by rw [ha]; rfl) rfl
  · exact .ite (fun _ => t.flagHead_moves _) fun _ => .refl 0 t
  · exact .refl 0 t

theorem State.quietStart_moves (hL : drainLabels ⊆ L) (hf : .frame ∈ L) : Moves L 0 s s.quietStart :=
  (Moves.inner (.pins s true s.lsel)).andThen <| (Moves.labelled (.frame (s.setQuiet true)
    { s.drain with
      phase := .quiet
      remainder := s.config.budget.toNat * 64
      frameCount := s.drain.frameCount + 1
      begun := false
      timer := clearedTimer } rfl rfl) hf).andThen <|
    (State.proceed_moves _ hL).andThen (State.arbitrate_moves _ (hL (by decide)))

theorem State.noteDrainError_moves (err : Bool) (he : err = true → .event .memError ∈ L) : Moves L 0 s (s.noteDrainError err) :=
  .ite (fun h => (s.flagHead_moves _).andThen (State.setEvent_moves _ (he h))) fun _ => .refl 0 s

/-- The end of a line leaves the link to what follows. -/
theorem State.endLine_slc (l : LineInProgress) : (s.endLine l).slc = s.slc :=
  (s.aside_frame (f := fun t => t.endLine l) fun x p => s.endLine_aside x p l).1

theorem State.tryIssue_slc : s.tryIssue.slc = s.slc := (s.aside_frame (f := State.tryIssue) fun x p => s.tryIssue_aside x p).1

theorem State.noteDrainError_slc (err : Bool) : (s.noteDrainError err).slc = s.slc :=
  (s.aside_frame (f := fun t => t.noteDrainError err) fun x p => s.noteDrainError_aside x p err).1

/-- The issue of a PASS beat does not touch the drain engine. -/
theorem State.tryIssue_drain : s.tryIssue.drain = s.drain := by
  unfold tryIssue
  split
  next t ht =>
    split
    · split
      · rfl
      · rw [issuePass, setBeat_eq _ t _ (by exact ht)]
        rfl
    · rfl
  · rfl

theorem State.endLine_drain (l : LineInProgress) : (s.endLine l).drain = s.drain := by
  unfold endLine
  rw [changeHead_eq]
  rfl

/-- The activity before a WIPE does not matter to what it leaves. -/
theorem State.makeWipeEffect_setActivity (a : DrainActivity) : (s.setActivity a).makeWipeEffect = s.makeWipeEffect := by
  unfold makeWipeEffect
  rw [wipeBlocks_setActivity]
  rfl

/-- R87.4, R88: the end of a line, up to a WIPE that waited for it. -/
theorem State.lineEnd_moves (l : LineInProgress) {n : Nat} (hd : s.drain.activity.drains = true) (hL : drainLabels ⊆ L)
    (hb : .event .writeBypassed ∈ L) (hwipe : ∀ u : State, u.slc = s.slc → Moves L n u u.finishWipe) :
    Moves L n s (s.lineEnd l) := by
  have hp : .port ∈ L := hL (by decide)
  have hend : Moves L 0 s (s.endLine l).tryIssue := (s.endLine_moves l hp).andThen (State.tryIssue_moves _ hp hb)
  have hslc : (s.endLine l).tryIssue.slc = s.slc := by rw [tryIssue_slc, endLine_slc]
  have hdrains : (s.endLine l).tryIssue.drain.activity.drains = true := by rw [tryIssue_drain, endLine_drain, hd]
  unfold lineEnd
  dsimp only
  refine hend.andThen (.ite (fun _ => ?_) fun _ => ?_)
  · rw [finishWipe, makeWipeEffect_setActivity]
    exact hwipe _ hslc
  · exact (State.afterLine_moves _ _ hdrains hL).mono (List.Subset.refl _) n.zero_le

/-- R87, R114: memory's answer, up to a WIPE that waited for the end of a line. -/
theorem State.memoryAnswer_moves (err : Bool) (rd : Word) {n : Nat} (he : err = true → .event .memError ∈ L)
    (hL : drainLabels ⊆ L) (hb : .event .writeBypassed ∈ L) (hwipe : ∀ u : State, u.slc = s.slc → Moves L n u u.finishWipe) :
    Moves L n s (s.memoryAnswer err rd) := by
  have hp : .port ∈ L := hL (by decide)
  have hzero {t u : State} (h : Moves L 0 t u) : Moves L n t u := h.mono (List.Subset.refl _) n.zero_le
  have hanswered : Moves L n s ((s.setMpa { s.mpa with port := none }).answerFromMemory err rd).arbitrate :=
    hzero <| (s.setMpa_moves _ hp).andThen <| (State.answerFromMemory_moves _ _ _).andThen (State.arbitrate_moves _ hp)
  unfold memoryAnswer
  split
  · exact .refl n s
  next r k hport =>
    have hnoted : Moves L 0 s (s.noteDrainError err) := s.noteDrainError_moves err he
    refine .ite (fun _ => hzero (hnoted.andThen (State.setMpa_moves _ _ hp))) fun _ => ?_
    have hfreed := hnoted.andThen (State.setMpa_moves _ { (s.noteDrainError err).mpa with port := none } hp)
    have hslc : ((s.noteDrainError err).setMpa { (s.noteDrainError err).mpa with port := none }).slc = s.slc :=
      s.noteDrainError_slc err
    refine hfreed.andThen ?_
    generalize (s.noteDrainError err).setMpa { (s.noteDrainError err).mpa with port := none } = t at hslc
    refine Moves.trans (n := 0) ?_ (State.arbitrate_moves _ hp)
    unfold runDone
    split
    next l hl =>
      split
      · exact hzero (.andThen (t.setActivity_moves _ (by rw [hl]; rfl)) (State.setMpa_moves _ _ hp))
      · exact t.lineEnd_moves l (by rw [hl]; rfl) hL hb fun u hu => hwipe u (hu.trans hslc)
    · exact .refl n t
  · exact hanswered
  · exact hanswered

theorem State.takeRequestFromHost_moves (r : HostRequest) : Moves L 0 s (s.takeRequestFromHost r) := by
  unfold takeRequestFromHost
  split
  · exact .inner (.hpi s _ (by simp [Hpi.held, HostRequest.begin]))
  · exact .inner (.hpi s _ fun h hh => .inr ⟨h, hh, rfl⟩)

theorem State.clearAnswer_moves : Moves L 0 s s.clearAnswer := .inner (.hpi s _ fun h hh => .inr ⟨h, hh, rfl⟩)

/-- R103: the beats of a transaction have word addresses. -/
theorem State.wordAddress_beat (t : HostTransaction) : s.WordAddress t.addr := .inl (Nat.mul_mod_right 4 _)

theorem State.takeWriteBeat_moves (wd : Word) (be : BitVec 4) (hL : hostLabels ⊆ L) : Moves L 0 s (s.takeWriteBeat wd be) := by
  unfold takeWriteBeat
  split
  next t _ =>
    exact s.clearAnswer_moves.andThen <| (State.routeWrite_moves _ wd be (State.wordAddress_beat _ t) hL).andThen
      (State.arbitrate_moves _ (hL (by decide)))
  · exact .refl 0 s

theorem State.takeReadBeat_moves (hp : .port ∈ L) : Moves L 0 s s.takeReadBeat := by
  unfold takeReadBeat
  split
  · exact s.clearAnswer_moves.andThen <| (State.routeRead_moves _ _ hp).andThen (State.arbitrate_moves _ hp)
  · exact .refl 0 s

/-! ## The tick of TCLK -/

theorem State.tickStall_moves (ht : .event .stallTimeout ∈ L) (hl : .event .writeLost ∈ L) : Moves L 0 s s.tickStall := by
  unfold tickStall
  split
  next h hh =>
    have hcounted : Moves L 0 s (s.setBeat (.held { h with elapsed := h.elapsed + 1 })) :=
      s.setBeat_moves _ fun b hb => by cases hb; exact .inr ⟨h, hh, rfl⟩
    exact .ite (fun _ => hcounted.andThen (State.expireStall_moves _ ht hl)) fun _ => hcounted
  · exact .refl 0 s

theorem State.tickStarvation_moves (hL : drainLabels ⊆ L) (he : .event .starved ∈ L) : Moves L 0 s s.tickStarvation := by
  have hcounted : Moves L 0 s s.countStarvation := .ite (fun _ => .refl 0 s) fun _ => s.setTimer_moves _
  exact .ite (fun _ => .ite (fun _ => hcounted.andThen <| (State.expireStarvation_moves _ hL he).andThen
    (State.arbitrate_moves _ (hL (by decide)))) fun _ => hcounted) fun _ => .refl 0 s

theorem State.tick_moves (hL : drainLabels ⊆ L) (he : .event .starved ∈ L) (ht : .event .stallTimeout ∈ L)
    (hl : .event .writeLost ∈ L) : Moves L 0 s s.tick :=
  .ite (fun _ => (s.tickStall_moves ht hl).andThen (State.tickStarvation_moves _ hL he)) fun _ => .refl 0 s

end

/-! ## The commands and their labels -/

/-- What the requests of all kinds may do. -/
def requestLabels : List Label := allKinds.flatMap Kind.labels

theorem Request.labels_subset (q : Request) : q.labels ⊆ requestLabels := by
  have hkind : ∀ k : Kind, k.labels ⊆ requestLabels := by
    intro k
    cases k <;> decide
  cases q with
  | refused ch tag why => exact List.nil_subset _
  | frame f =>
    cases hk : kindOfCode f.kind with
    | none => simp only [labels, hk]; exact List.nil_subset _
    | some k => simp only [labels, hk]; exact hkind k

/-- What a command may do: its own part, and for a frame the part of the request it brings. -/
def commandLabels : Instr → List Label
  | .hardwareReset => [.reset]
  | .resetRelease => [.release]
  | .quietStart => .frame :: drainLabels
  | .starvationTimerExpiry => .event .starved :: drainLabels
  | .stallLimitExpiry => [.event .stallTimeout, .event .writeLost]
  | .hostWriteBeat _ _ => hostLabels
  | .hostReadBeat | .heldBeatRetry | .heldBeatRelease | .wipeEffect => [.port]
  | .passWriteIssue => [.port, .event .writeBypassed]
  | .memoryBeatAnswer err _ => (if err then [.event .memError] else []) ++ .event .writeBypassed :: drainLabels
  | .drainStart => drainLabels
  | .transferPeriodEnd | .headerCheckFailure => [.event .linkError]
  | .linkOverrun | .frameFormRefusal _ _ _ | .payloadCheckFailure _ _ => [.event .linkOverrun]
  | .unknownKind kind ch tag body => .event .linkOverrun :: (Request.frame ⟨kind, ch, tag, body⟩).labels
  | .byteReceived _ => .event .linkError :: .event .linkOverrun :: requestLabels
  | .configSet _ _ _ => .event .linkOverrun :: Kind.configSet.labels
  | .winAbort _ _ _ => .event .linkOverrun :: Kind.winAbort.labels
  | .close _ _ _ => .event .linkOverrun :: Kind.close.labels
  | .cancel _ _ _ => .event .linkOverrun :: Kind.cancel.labels
  | .logRead _ _ _ => .event .linkOverrun :: Kind.logRead.labels
  | .eventAck _ _ _ => .event .linkOverrun :: Kind.eventAck.labels
  | .ident _ _ _ | .status _ _ _ | .configGet _ _ _ | .wipe _ _ _ | .setLimit _ _ _ | .resync _ _ _ | .winDefine _ _ _
  | .winStart _ _ _ | .winRelease _ _ _ | .winQuery _ _ _ | .sigReset _ _ _ => [.event .linkOverrun]
  | .quietEnd | .hostTransactionRequest _ _ _ | .transferPeriodStart | .responseSent | .byteSent => []

/-- R143: a request command hands its frame to the link. -/
theorem exec_commandOf_eq (k : Kind) (ch : Channel) (tag : Tag) (body : FrameBody) (s : State) :
    exec (commandOf k ch tag body) s =
      .next (if s.resetn then s.accept (.frame { kind := k.code, ch := ch, tag := tag, body := body }) else s) := by
  cases k <;> rfl

theorem commandLabels_commandOf (k : Kind) (ch : Channel) (tag : Tag) (body : FrameBody) :
    commandLabels (commandOf k ch tag body) = .event .linkOverrun :: k.labels := by
  cases k <;> rfl

theorem Request.labels_of_kind (k : Kind) (ch : Channel) (tag : Tag) (body : FrameBody) :
    (Request.frame { kind := k.code, ch := ch, tag := tag, body := body }).labels = k.labels := by
  simp only [labels, kindOfCode_code, Option.elim_some]

section
variable {L : List Label} {n : Nat} {i : Instr} {s : State}

/-- Every command is a run of moves with its labels, given what becomes of the frames it completes and of a WIPE that waits. -/
theorem exec_moves_of (hL : commandLabels i ⊆ L)
    (haccept : ∀ (u : State) (q : Request), u.slc.responses = s.slc.responses → .event .linkOverrun :: q.labels ⊆ commandLabels i →
      Moves L n u (u.accept q))
    (hwipe : ∀ u : State, u.slc = s.slc → Moves L n u u.finishWipe) {t : State} (h : exec i s = .next t) :
    Moves L n s t := by
  have released {f : State → State} (hf : Moves L n s (f s)) (h : whenReleased f s = .next t) : Moves L n s t := by
    cases h
    exact .ite (fun _ => hf) fun _ => .refl n s
  have plain {f : State → State} (hf : Moves L 0 s (f s)) (h : whenReleased f s = .next t) : Moves L n s t :=
    released (hf.mono (List.Subset.refl _) n.zero_le) h
  have zero {u : State} (h : Moves L 0 s u) : Moves L n s u := h.mono (List.Subset.refl _) n.zero_le
  have request (k : Kind) (ch : Channel) (tag : Tag) (body : FrameBody) (hi : i = commandOf k ch tag body) : Moves L n s t := by
    subst hi
    rw [exec_commandOf_eq] at h
    cases h
    refine .ite (fun _ => haccept s _ rfl ?_) fun _ => .refl n s
    rw [Request.labels_of_kind, commandLabels_commandOf]
    exact List.Subset.refl _
  cases i with
  | hardwareReset => cases h; exact zero (.labelled (.reset s) (hL (by decide)))
  | resetRelease => cases h; exact .ite (fun _ => .refl n s) fun _ => zero (.labelled (.release s) (hL (by decide)))
  | quietStart =>
    cases h
    exact zero <| .ite (fun _ => .ite (fun _ => .refl 0 s) fun _ =>
      s.quietStart_moves (fun _ h => hL (List.mem_cons_of_mem _ h)) (hL (by decide))) fun _ => .inner (.pins s true s.lsel)
  | quietEnd =>
    cases h
    exact zero <| .ite (fun _ => .ite (fun _ => s.quietEnd_moves) fun _ => .refl 0 s) fun _ => .inner (.pins s false s.lsel)
  | starvationTimerExpiry =>
    have hd : drainLabels ⊆ L := fun _ h => hL (List.mem_cons_of_mem _ h)
    exact plain (.ite (fun _ => (s.expireStarvation_moves hd (hL (by decide))).andThen (State.arbitrate_moves _ (hd (by decide))))
      fun _ => .refl 0 s) h
  | stallLimitExpiry => exact plain (s.expireStall_moves (hL (by decide)) (hL (by decide))) h
  | hostTransactionRequest adr wr cnt => exact plain (f := fun s => s.takeRequestFromHost _) (s.takeRequestFromHost_moves _) h
  | hostWriteBeat wd be => exact plain (f := fun s => s.takeWriteBeat wd be) (s.takeWriteBeat_moves wd be hL) h
  | hostReadBeat => exact plain (s.takeReadBeat_moves (hL (by decide))) h
  | passWriteIssue =>
    exact plain (f := fun s => s.tryIssue.arbitrate)
      ((s.tryIssue_moves (hL (by decide)) (hL (by decide))).andThen (State.arbitrate_moves _ (hL (by decide)))) h
  | heldBeatRetry =>
    exact plain (f := fun s => s.retryHeld.arbitrate)
      ((s.retryHeld_moves (hL (by decide))).andThen (State.arbitrate_moves _ (hL (by decide)))) h
  | heldBeatRelease =>
    exact plain (f := fun s => s.releaseHeld.arbitrate)
      ((s.releaseHeld_moves (hL (by decide))).andThen (State.arbitrate_moves _ (hL (by decide)))) h
  | memoryBeatAnswer err rd =>
    have hd : .event .writeBypassed :: drainLabels ⊆ L := fun _ h => hL (List.mem_append_right _ h)
    exact released (f := fun s => s.memoryAnswer err rd)
      (s.memoryAnswer_moves err rd (fun he => hL (by rw [he]; exact List.mem_cons_self))
        (fun _ h => hd (List.mem_cons_of_mem _ h)) (hd (by decide))
        hwipe) h
  | drainStart =>
    exact plain (.ite (fun _ => (s.startBatches_moves hL).andThen (State.arbitrate_moves _ (hL (by decide)))) fun _ => .refl 0 s) h
  | transferPeriodStart =>
    cases h
    exact zero <| .ite (fun _ => .ite (fun _ => s.startPeriod_moves) fun _ => .refl 0 s) fun _ => .inner (.pins s s.quiet false)
  | transferPeriodEnd =>
    cases h
    exact zero <| .ite (fun _ => .ite (fun _ => .refl 0 s) fun _ => s.endPeriod_moves (hL (by decide)))
      fun _ => .inner (.pins s s.quiet true)
  | headerCheckFailure => exact plain (s.failHeader_moves (hL (by decide))) h
  | frameFormRefusal ch tag fault =>
    have hslc : (s.afterFormFault fault).slc.responses = s.slc.responses := by cases fault <;> rfl
    exact released (f := fun s => (s.afterFormFault fault).accept (.refused ch tag .length))
      ((s.afterFormFault_moves fault).andThen (haccept _ _ hslc (List.Subset.refl _))) h
  | payloadCheckFailure ch tag =>
    exact released (f := fun s => s.endFrame.accept (.refused ch tag .check))
      ((s.setAssembler_moves _).andThen (haccept _ _ rfl (List.Subset.refl _))) h
  | linkOverrun => exact plain (.ite (fun _ => s.setEvent_moves (hL (by decide))) fun _ => .refl 0 s) h
  | unknownKind kind ch tag body =>
    exact released (f := fun s => s.accept (.frame { kind := kind, ch := ch, tag := tag, body := body }))
      (haccept s _ rfl (List.Subset.refl _)) h
  | responseSent => exact plain s.sendRest_moves h
  | wipeEffect =>
    refine released (.ite (fun _ => Moves.trans (n := 0) (hwipe s rfl) (State.arbitrate_moves _ (hL (by decide))))
      fun _ => .refl n s) h
  | byteReceived b =>
    refine released (f := fun s => s.receiveByte b) (s.receiveByte_moves b (hL (by simp [commandLabels])) fun u q hu => ?_) h
    exact haccept u q hu fun _ h => List.mem_cons_of_mem _ (List.cons_subset_cons _ q.labels_subset h)
  | byteSent => exact plain s.sendByte_moves h
  | ident ch tag body => exact request .ident ch tag body rfl
  | status ch tag body => exact request .status ch tag body rfl
  | configGet ch tag body => exact request .configGet ch tag body rfl
  | configSet ch tag body => exact request .configSet ch tag body rfl
  | wipe ch tag body => exact request .wipe ch tag body rfl
  | setLimit ch tag body => exact request .setLimit ch tag body rfl
  | resync ch tag body => exact request .resync ch tag body rfl
  | winDefine ch tag body => exact request .winDefine ch tag body rfl
  | winStart ch tag body => exact request .winStart ch tag body rfl
  | winRelease ch tag body => exact request .winRelease ch tag body rfl
  | winQuery ch tag body => exact request .winQuery ch tag body rfl
  | winAbort ch tag body => exact request .winAbort ch tag body rfl
  | close ch tag body => exact request .close ch tag body rfl
  | cancel ch tag body => exact request .cancel ch tag body rfl
  | logRead ch tag body => exact request .logRead ch tag body rfl
  | sigReset ch tag body => exact request .sigReset ch tag body rfl
  | eventAck ch tag body => exact request .eventAck ch tag body rfl

/-- R166: a WIPE's effect claims and empties no place. -/
theorem State.makeWipeEffect_responses_length (u : State) : u.makeWipeEffect.slc.responses.length = u.slc.responses.length := by
  have hslc : u.wipeBlocks.slc = u.slc := (u.aside_frame (f := State.wipeBlocks) fun x p => u.wipeBlocks_aside x p).1
  unfold makeWipeEffect fillWipe
  split
  · simp only [setSlc_slc, fill, setResponses_slc, fillFirst_length, hslc]
  · simp only [setSlc_slc, hslc]

/-- R166: with no request waiting a WIPE's effect has no place to fill, and no request follows it. -/
theorem State.finishWipe_of_rest (u : State) (hu : firstAwaiting u.slc.responses = none) : u.finishWipe = u.makeWipeEffect := by
  have hslc : u.wipeBlocks.slc = u.slc := (u.aside_frame (f := State.wipeBlocks) fun x p => u.wipeBlocks_aside x p).1
  have hfirst : firstAwaiting u.makeWipeEffect.slc.responses = none := by
    simp only [makeWipeEffect, fillWipe, hslc, hu, setSlc_slc]
  exact runCommands_idle _ _ hfirst

/-- Every command is a run of moves with its labels and those of the requests that wait; with at most eight places claimed it forms at
most eight batches. -/
theorem exec_moves {t : State} (h : exec i s = .next t) :
    Moves (commandLabels i ++ .event .linkOverrun :: requestLabels) (max 8 s.slc.responses.length) s t := by
  have hq (q : Request) : q.labels ⊆ commandLabels i ++ .event .linkOverrun :: requestLabels := fun _ h =>
    List.mem_append_right _ (List.mem_cons_of_mem _ (q.labels_subset h))
  refine exec_moves_of (List.subset_append_left _ _) (fun u q hu _ => ?_) (fun u hu => ?_) h
  · exact (u.accept_moves q hq (List.mem_append_right _ List.mem_cons_self)).mono (List.Subset.refl _) (le_max_left _ _)
  · refine (u.finishWipe_moves hq).mono (List.Subset.refl _) ?_
    rw [u.makeWipeEffect_responses_length, hu]
    exact le_max_right _ _

/-- A command at a link where no request waits is a run of moves with its own labels. -/
theorem exec_moves_of_rest (hs : firstAwaiting s.slc.responses = none) {t : State} (h : exec i s = .next t) :
    Moves (commandLabels i) 1 s t := by
  refine exec_moves_of (List.Subset.refl _) (fun u q hu hq => ?_) (fun u hu => ?_) h
  · exact u.accept_moves_of_rest q (by rw [hu, hs]) (fun _ h => hq (List.mem_cons_of_mem _ h)) (hq List.mem_cons_self)
  · rw [u.finishWipe_of_rest (by rw [hu, hs])]
    exact u.makeWipeEffect_moves.mono (List.Subset.refl _) (by decide)

end

end Sys2Proof.Machine
end

section
/-! The laws of the device that a step keeps, move by move: the store, the spans and quotas, the drain law, the port and the link. -/

namespace Sys2Proof.Machine

/-! ## The laws right after reset -/

/-- Settles O6: every block is empty. -/
theorem resetMeetsTheLaws : Obligations.ResetMeetsTheLaws := by
  unfold Obligations.ResetMeetsTheLaws
  have hfree (w : WindowNo) : State.reset.win w = .free := by simp [State.reset, State.win]
  refine ⟨by decide, ?spans, ?quota, by decide, by decide, by decide, ?slots⟩
  case spans =>
    intro w v _ d hd
    rw [hfree] at hd
    cases hd
  case quota =>
    intro w d hd
    rw [hfree] at hd
    cases hd
  case slots =>
    refine ⟨fun w => ?_, nofun, fun w d e n g h => ?_, nofun, nofun, fun w => List.nodup_nil, fun w d e n q h => ?_, fun w _ => rfl,
      nofun⟩
    · rw [hfree]; rfl
    · rw [hfree] at h; cases h
    · rw [hfree] at h; cases h

theorem State.hardwareReset_win (s : State) (w : WindowNo) : s.hardwareReset.win w = .free := by
  simp [hardwareReset, State.reset, State.win]

theorem State.wiped_win (s : State) (w : WindowNo) : s.wiped.win w = .free := by
  simp [wiped, State.setDrain, State.setWindows, State.win]

/-! ## What a step runs -/

/-- What every move keeps, and a change of the waiting commands too, a step keeps. -/
theorem step_keeps {P : State → Prop} (hP : ∀ l s t, Move l s t → P s → P t) (hpending : ∀ s c, P s → P (s.setPending c)) {s t : State}
    (h : step s = .next t) (hs : P s) : P t := by
  unfold step at h
  split at h
  next c rest _ => exact (exec_moves h).keeps (fun l s t _ => hP l s t) (hpending s rest hs)
  next =>
    cases h
    exact (s.tick_moves (L := .event .starved :: .event .stallTimeout :: .event .writeLost :: drainLabels)
      (fun _ h => by simp only [List.mem_cons, h, or_true]) (by decide) (by decide) (by decide)).keeps (fun l s t _ => hP l s t) hs

/-! ## The waiting commands -/

theorem State.abortGroup_of_isCapturing {s : State} {w : WindowNo} (hw : (s.win w).isCapturing = true) :
    ∃ d e held g, s.win w = .capturing d e held g ∧ s.abortGroup w =
      (s.setSlots (s.slots.filter fun x => !Slot.openOf w x)).setWin w
        (.capturing d (s.nextEpoch w e) (held - s.freedCount (Slot.openOf w)) newGroup) := by
  cases hwin : s.win w with
  | capturing d e held g => exact ⟨d, e, held, g, rfl, State.abortGroup_capturing hwin⟩
  | free | idle _ _ | retiring _ _ _ _ => rw [hwin] at hw; cases hw

theorem State.reserveHead_eq (s : State) (r : BatchRecord) :
    s.reserveHead r =
      (((s.setLog { s.log with reserved := true }).setQueue (s.queue.modifyHead fun x =>
        { x with
          state := .draining
            { resume := (drainOrder s.slots r.members).head?, lines := 0, bytes := 0, crc := crc32cInit } })).setSlots
        (changeSlots (Slot.inBatch r.members) (fun x => { x with status := .draining }) s.slots)).setBegun false := by
  rw [reserveHead, changeHead_eq]
  rfl

/-- R71, R124: the log once a WIPE has stopped the batch DRAINING. -/
def State.stoppedLog (s : State) : CompletionLog :=
  match s.drainingHead with
  | some (r, f) => { (s.log.post (wipedRecord r f s.drain.frameCount)) with reserved := false }
  | none => s.log

theorem State.stopDraining_eq (s : State) : s.stopDraining = s.setLog s.stoppedLog := by
  unfold stopDraining stoppedLog
  cases s.drainingHead <;> rfl

/-- No move changes the queue of commands that wait. -/
theorem Move.pending {l : Label} {s t : State} (h : Move l s t) : t.pending = s.pending := by
  cases h with
  | stage _ _ w a wd be ha h => obtain ⟨d, e, held, g, -, ⟨x, -, rfl⟩ | ⟨-, -, -, rfl⟩⟩ := s.stage_cases t w a wd be h <;> rfl
  | abort _ w hw => obtain ⟨d, e, held, g, -, h⟩ := State.abortGroup_of_isCapturing hw; rw [h]; rfl
  | head _ f hf => rw [State.changeHead_eq]; rfl
  | begin _ r rest d hq hr hl hs ha hc => rw [State.reserveHead_eq]; rfl
  | wipe => simp [State.wiped, State.stopDraining_eq]
  | close => simp [State.closeBatch]
  | cancel => simp [State.removeBatch, State.cancelRetire, State.freeSlots]
  | complete => simp [State.completed, State.retireMembers, State.freeSlots]
  | _ => rfl

theorem exec_eq_next (i : Instr) (s : State) : ∃ t, exec i s = .next t := by
  cases i <;> exact ⟨_, rfl⟩

/-- Settles O3: every arm of the dispatch answers a next state, by moves that leave the waiting commands. -/
theorem everyCommandTakesEffect : Obligations.EveryCommandTakesEffect := by
  unfold Obligations.EveryCommandTakesEffect
  intro i s
  obtain ⟨t, h⟩ := exec_eq_next i s
  exact ⟨t, h, (exec_moves h).keeps (P := fun u => u.pending = s.pending) (fun _ _ _ _ m hp => m.pending.trans hp) rfl⟩

/-! ## The staging store -/

/-- R25, R27: every move keeps the staging store in its form. -/
theorem Move.storeWf {l : Label} {s t : State} (h : Move l s t) (hs : s.StoreWf) : t.StoreWf := by
  have hfilter (p : Slot → Bool) : slotsOrdered (s.slots.filter p) ∧ (s.slots.filter p).length ≤ 512 :=
    ⟨filter_ordered p s.slots hs.1, (List.length_filter_le p s.slots).trans hs.2⟩
  have hchange (p : Slot → Bool) (f : Slot → Slot)
      (hf : ∀ x, (f x).window = x.window ∧ (f x).epoch = x.epoch ∧ (f x).line = x.line) :
      slotsOrdered (changeSlots p f s.slots) ∧ (changeSlots p f s.slots).length ≤ 512 :=
    ⟨changeSlots_ordered p f s.slots hs.1 hf, (changeSlots_length p f s.slots).trans_le hs.2⟩
  cases h with
  | stage _ _ w a wd be ha h => exact s.stage_storeWf t w a wd be h hs
  | slots _ f hf =>
    have hmap : s.slots.map f = changeSlots (fun _ => true) f s.slots := by simp [changeSlots]
    rw [State.StoreWf, State.setSlots_slots, hmap]
    exact hchange _ f fun x => ⟨(hf x).window, (hf x).epoch, (hf x).line⟩
  | abort _ w hw =>
    obtain ⟨d, e, held, g, -, h⟩ := State.abortGroup_of_isCapturing hw
    rw [h]
    exact hfilter _
  | close _ retire mask hw hq => exact hchange _ _ fun _ => ⟨rfl, rfl, rfl⟩
  | cancel _ r hr hd hl => exact hfilter _
  | head _ f hf => rw [State.changeHead_eq]; exact hs
  | begin _ r rest d hq hr hl hd ha hc => rw [State.reserveHead_eq]; exact hchange _ _ fun _ => ⟨rfl, rfl, rfl⟩
  | complete _ r f h => exact hfilter _
  | wipe => exact ⟨List.Pairwise.nil, Nat.zero_le _⟩
  | reset => exact ⟨List.Pairwise.nil, Nat.zero_le _⟩
  | _ => exact hs

/-- Settles O7: every move keeps the store. -/
theorem stepKeepsTheStore : Obligations.StepKeepsTheStore := by
  unfold Obligations.StepKeepsTheStore
  exact fun s t hs h => step_keeps (fun _ _ _ m => m.storeWf) (fun _ _ h => h) h hs

/-! ## Spans and quotas -/

/-- The entry has no definition but the old entry's, and holds no more slots, or no more than its quota. -/
def WindowEntry.Within (e e' : WindowEntry) : Prop :=
  ∀ d ∈ e'.definition, d ∈ e.definition ∧ (e'.slotsHeld ≤ e.slotsHeld ∨ e'.slotsHeld ≤ d.quota)

theorem WindowEntry.Within.refl (e : WindowEntry) : e.Within e := fun _ hd => ⟨hd, .inl le_rfl⟩

theorem WindowEntry.Within.trans {e e' e'' : WindowEntry} (h : e.Within e') (k : e'.Within e'') : e.Within e'' := by
  intro d hd
  obtain ⟨hd', hk⟩ := k d hd
  obtain ⟨hd'', hh⟩ := h d hd'
  exact ⟨hd'', hk.elim (fun hk => hh.imp hk.trans hk.trans) .inr⟩

theorem WindowEntry.Within.of_eq {e e' : WindowEntry} (hd : e'.definition = e.definition) (hn : e'.slotsHeld ≤ e.slotsHeld) :
    e.Within e' := fun _ h => ⟨hd ▸ h, .inl hn⟩

theorem WindowEntry.Within.dropHeld (e : WindowEntry) (n : Nat) : e.Within (e.dropHeld n) := by
  cases e <;> exact Within.of_eq rfl (by simp [WindowEntry.dropHeld, slotsHeld])

theorem WindowEntry.Within.markGroup (e : WindowEntry) (f : GroupFlags → GroupFlags) : e.Within (e.markGroup f) := by
  cases e <;> exact Within.refl _

theorem WindowEntry.Within.closeWindow (e : WindowEntry) (retire : Bool) (q : Sequence) (next : Epoch → Epoch) :
    e.Within (closeWindow retire q next e) := by
  cases e <;> cases retire <;> exact Within.refl _

theorem WindowEntry.Within.free (e : WindowEntry) : e.Within .free := nofun

/-- A table with one entry replaced by one within it. -/
theorem State.setWin_within (s : State) (w v : WindowNo) (e : WindowEntry) (h : (s.win w).Within e) :
    (s.win v).Within ((s.setWin w e).win v) := by
  rw [State.setWin_win]
  split
  next hv => exact hv ▸ h
  next => exact .refl _

/-- R11, R28: every move but a definition leaves each window within its old entry. -/
theorem Move.within {l : Label} {s t : State} (h : Move l s t) :
    (∀ w, (s.win w).Within (t.win w)) ∨
      ∃ w d, s.overlaps d.geometry = false ∧ t = s.setWin w (.idle d 0) := by
  cases h with
  | stage _ _ w a wd be ha h =>
    refine .inl fun v => ?_
    obtain ⟨d, e, held, g, hw, ⟨x, -, rfl⟩ | ⟨-, -, hq, rfl⟩⟩ := s.stage_cases t w a wd be h
    · exact State.setWin_within (s.setSlots _) w v _ (by rw [State.setSlots_win, hw]; exact .refl _)
    · refine State.setWin_within (s.setSlots _) w v _ ?_
      rw [State.setSlots_win, hw]
      rintro d' ⟨⟩
      exact ⟨rfl, .inr hq⟩
  | markGroup _ w f => exact .inl fun v => s.setWin_within w v _ (.markGroup _ f)
  | define _ w d hw hd => exact .inr ⟨w, d, hd, rfl⟩
  | start _ w d e hw => exact .inl fun v => s.setWin_within w v _ (by rw [hw]; exact .of_eq rfl le_rfl)
  | free _ w d e hw => exact .inl fun v => s.setWin_within w v _ (.free _)
  | abort _ w hw =>
    refine .inl fun v => ?_
    obtain ⟨d, e, held, g, hwin, h⟩ := State.abortGroup_of_isCapturing hw
    rw [h]
    refine State.setWin_within (s.setSlots _) w v _ ?_
    rw [State.setSlots_win, hwin]
    exact .of_eq rfl (Nat.sub_le _ _)
  | close _ retire mask hw hq =>
    refine .inl fun v => ?_
    rw [State.closeBatch, State.mapWindows_win]
    split
    · exact .closeWindow _ _ _ _
    · exact .refl _
  | cancel _ r hr hd hl =>
    refine .inl fun v => ?_
    rw [State.removeBatch, State.cancelRetire, State.mapWindows_win, State.setLog_win, State.freeSlots_win, State.setQueue_win]
    generalize List.countP _ _ = n
    refine .trans (.dropHeld (s.win v) n) ?_
    generalize (s.win v).dropHeld n = e
    split
    · split
      · split
        · exact .of_eq rfl le_rfl
        · exact .of_eq rfl (Nat.zero_le _)
      · exact .refl _
    · exact .refl _
  | head _ f hf => rw [State.changeHead_eq]; exact .inl fun _ => .refl _
  | begin _ r rest d hq hr hl hd ha hc => rw [State.reserveHead_eq]; exact .inl fun _ => .refl _
  | complete _ r f h =>
    refine .inl fun v => ?_
    rw [State.completed, State.setActivity_win, State.retireMembers, State.mapWindows_win, State.setQueue_win, State.setLog_win,
      State.freeSlots_win]
    generalize List.countP _ _ = n
    refine .trans (.dropHeld (s.win v) n) ?_
    generalize (s.win v).dropHeld n = e
    split
    · split
      · exact .of_eq rfl (Nat.zero_le _)
      · exact .refl _
    · exact .refl _
  | wipe => exact .inl fun v => by rw [State.wiped_win]; exact .free _
  | reset => exact .inl fun v => by rw [State.hardwareReset_win]; exact .free _
  | _ => exact .inl fun _ => .refl _

theorem spansMeet_comm (x y : Nat × Nat) : spansMeet x y = spansMeet y x := by
  simp only [spansMeet, Bool.and_comm]

/-- R11: every move keeps the spans apart; a definition is made only where its span meets none. -/
theorem Move.spansDisjoint {l : Label} {s t : State} (h : Move l s t) (hs : s.SpansDisjoint) : t.SpansDisjoint := by
  rcases h.within with hw | ⟨w, d, hd, rfl⟩
  · exact fun w v hwv d hd d' hd' => hs w v hwv d (hw w d hd).1 d' (hw v d' hd').1
  have hapart (v : WindowNo) : ∀ x ∈ (s.win v).definition, spansMeet d.geometry.span x.geometry.span = false := by
    intro x hx
    have hno := mt (s.overlaps_eq_true d.geometry).mpr (by simp [hd])
    rw [Bool.eq_false_iff, ne_eq, spansMeet, Bool.and_eq_true, decide_eq_true_eq, decide_eq_true_eq]
    exact fun hmeet => hno ⟨v, x, hx, hmeet⟩
  intro u v huv x hx y hy
  rw [State.setWin_win] at hx hy
  by_cases hu : u = w
  · rw [if_pos hu] at hx
    rw [if_neg (fun hv => huv (hu.trans hv.symm))] at hy
    cases hx
    exact hapart v y hy
  · rw [if_neg hu] at hx
    by_cases hv : v = w
    · rw [if_pos hv] at hy
      cases hy
      rw [spansMeet_comm]
      exact hapart u x hx
    · rw [if_neg hv] at hy
      exact hs u v huv x hx y hy

/-- R28: every move keeps each window within its quota. -/
theorem Move.withinQuota {l : Label} {s t : State} (h : Move l s t) (hs : s.WithinQuota) : t.WithinQuota := by
  intro v d hd
  rcases h.within with hw | ⟨w, x, -, rfl⟩
  · obtain ⟨hd', hn⟩ := hw v d hd
    exact hn.elim (fun hn => hn.trans (hs v d hd')) id
  · rw [State.setWin_win] at hd ⊢
    split
    next hv => exact Nat.zero_le _
    next hv => rw [if_neg hv] at hd; exact hs v d hd

/-- Settles O8: every move keeps both laws. -/
theorem stepKeepsSpansAndQuotas : Obligations.StepKeepsSpansAndQuotas := by
  unfold Obligations.StepKeepsSpansAndQuotas
  exact fun s t h => ⟨step_keeps (fun _ _ _ m => m.spansDisjoint) (fun _ _ h => h) h,
    step_keeps (fun _ _ _ m => m.withinQuota) (fun _ _ h => h) h⟩

end Sys2Proof.Machine
end

section
/-! The drain law, the port and the link, and what only named commands may do: RESETN low, the frame count and the events. -/

namespace Sys2Proof.Machine

/-! ## The drain law -/

/-- R47: the head of the queue is DRAINING. -/
def headDrains (queue : List BatchRecord) : Bool := queue.head?.any BatchRecord.isDraining

theorem State.drainingHead_isSome (s : State) : s.drainingHead.isSome = headDrains s.queue := by
  unfold drainingHead headDrains
  cases s.queue with
  | nil => rfl
  | cons r rest => simp [BatchRecord.isDraining]

theorem BatchRecord.isQueued_eq (r : BatchRecord) : r.isQueued = !r.isDraining := by
  simp [isQueued, isDraining]

/-- R47, R80, R120, R121: the drain law, of the queue, the log and the activity that it speaks of. -/
def DrainLawOf (queue : List BatchRecord) (log : CompletionLog) (a : DrainActivity) : Prop :=
  (queue.length ≤ 8 ∧ ∀ r ∈ queue.tail, r.isDraining = false) ∧
    log.records.length + (if log.reserved then 1 else 0) ≤ 32 ∧ log.reserved = headDrains queue ∧ a.drains = headDrains queue

theorem State.drainLaw_iff (s : State) : s.DrainLaw ↔ DrainLawOf s.queue s.log s.drain.activity := by
  simp only [State.DrainLaw, State.QueueLaw, State.LogLaw, DrainLawOf, s.drainingHead_isSome, BatchRecord.isQueued_eq,
    Bool.not_eq_true']

section
variable {queue : List BatchRecord} {log : CompletionLog} {a : DrainActivity}

/-- A change of records that keeps their standing keeps the drain law. -/
theorem DrainLawOf.modifyHead (h : DrainLawOf queue log a) {f : BatchRecord → BatchRecord}
    (hf : ∀ r, (f r).isDraining = r.isDraining) : DrainLawOf (queue.modifyHead f) log a := by
  cases queue with
  | nil => exact h
  | cons r rest => simpa [DrainLawOf, headDrains, hf] using h

/-- R48: a QUEUED batch joins at the tail. -/
theorem DrainLawOf.append (h : DrainLawOf queue log a) {r : BatchRecord} (hr : r.isDraining = false) (hq : queue.length < 8) :
    DrainLawOf (queue ++ [r]) log a := by
  obtain ⟨⟨-, htail⟩, hrest⟩ := h
  cases queue with
  | nil => exact ⟨⟨by simp, by simp⟩, by simpa [headDrains, hr] using hrest⟩
  | cons x rest =>
    refine ⟨⟨by simpa using hq, fun y hy => ?_⟩, by simpa [headDrains] using hrest⟩
    rcases List.mem_append.mp hy with hy | hy
    · exact htail y hy
    · rw [List.mem_singleton.mp hy, hr]

/-- R120: a record joins the log where an entry is free. -/
theorem CompletionLog.post_length (h : log.freeEntries ≠ 0) (r : CompletionRecord) :
    (log.post r).records.length + (if log.reserved then 1 else 0) ≤ 32 := by
  rw [ne_eq, log.freeEntries_eq_zero] at h
  rw [CompletionLog.post, List.length_append, List.length_singleton]
  cases hr : log.reserved <;> simp [hr, Bool.toNat] at h ⊢ <;> omega

/-- R66: a QUEUED batch leaves the queue, and its record joins the log. -/
theorem DrainLawOf.cancel (h : DrainLawOf queue log a) {r : BatchRecord} (hr : queue.find? (·.seq = r.seq) = some r)
    (hd : r.isDraining = false) (hl : log.freeEntries ≠ 0) (c : CompletionRecord) :
    DrainLawOf (queue.eraseP (·.seq = r.seq)) (log.post c) a := by
  obtain ⟨⟨hlen, htail⟩, -, hres, hact⟩ := h
  have hpost := CompletionLog.post_length hl c
  cases queue with
  | nil => cases hr
  | cons x rest =>
    by_cases hx : x.seq = r.seq
    · have hxr : x = r := by simpa [hx] using hr
      have hnone : headDrains (x :: rest) = false := by simp [headDrains, hxr, hd]
      have hrest : headDrains rest = false := by
        cases rest with
        | nil => rfl
        | cons y ys => simpa [headDrains] using htail y (by simp)
      rw [List.eraseP_cons_of_pos (by simpa using hx)]
      rw [hnone] at hres hact
      refine ⟨⟨(Nat.le_succ _).trans hlen, fun y hy => htail y (List.mem_of_mem_tail hy)⟩, hpost, ?_, ?_⟩
      · rw [hrest]; exact hres
      · rw [hrest]; exact hact
    · rw [List.eraseP_cons_of_neg (by simpa using hx)]
      have hle : (rest.eraseP (·.seq = r.seq)).length ≤ rest.length := List.length_eraseP_le
      exact ⟨⟨(Nat.succ_le_succ hle).trans hlen, fun y hy => htail y (List.mem_of_mem_eraseP hy)⟩, hpost, hres, hact⟩

/-- R85: the QUEUED head is reserved an entry of the log and becomes DRAINING. -/
theorem DrainLawOf.begin {r : BatchRecord} {rest : List BatchRecord} (h : DrainLawOf (r :: rest) log a)
    (hl : log.freeEntries ≠ 0) {r' : BatchRecord} (hr : r'.isDraining = true) {b : DrainActivity} (hb : b.drains = true) :
    DrainLawOf (r' :: rest) { log with reserved := true } b := by
  have hlog : log.records.length + 1 ≤ 32 := by
    rw [ne_eq, log.freeEntries_eq_zero] at hl
    omega
  exact ⟨h.1, by simpa using hlog, by simp [headDrains, hr], by simp [headDrains, hr, hb]⟩

/-- R93: the DRAINING head completes, and its record is posted into its reservation. -/
theorem DrainLawOf.complete (h : DrainLawOf queue log a) (hd : headDrains queue = true) (c : CompletionRecord) :
    DrainLawOf queue.tail { (log.post c) with reserved := false } .idle := by
  obtain ⟨⟨hlen, htail⟩, hlog, hres, -⟩ := h
  have hrest : headDrains queue.tail = false := by
    cases hq : queue.tail with
    | nil => rfl
    | cons y ys => simpa [headDrains] using htail y (by simp [hq])
  rw [hres, hd, if_pos rfl] at hlog
  refine ⟨⟨(List.length_tail.trans_le (Nat.sub_le _ _)).trans hlen, fun y hy => htail y (List.mem_of_mem_tail hy)⟩, ?_, ?_, ?_⟩
  · simpa [CompletionLog.post] using hlog
  · exact hrest.symm
  · exact hrest.symm

end

/-- R71, R124: the record of the stopped batch takes its reservation. -/
theorem State.stoppedLog_of_law (s : State) (hl : s.log.records.length + (if s.log.reserved then 1 else 0) ≤ 32)
    (hres : s.log.reserved = s.drainingHead.isSome) :
    s.stoppedLog.records.length + (if s.stoppedLog.reserved then 1 else 0) ≤ 32 ∧ s.stoppedLog.reserved = false := by
  unfold stoppedLog
  cases hd : s.drainingHead with
  | none =>
    rw [hd] at hres
    exact ⟨hl, hres⟩
  | some k =>
    rw [hres, hd] at hl
    exact ⟨by simpa [CompletionLog.post] using hl, rfl⟩

/-- Every move keeps the drain law. -/
theorem Move.drainLaw {l : Label} {s t : State} (h : Move l s t) (hs : s.DrainLaw) : t.DrainLaw := by
  rw [State.drainLaw_iff] at hs ⊢
  cases h with
  | stage _ _ w a wd be ha h => obtain ⟨d, e, held, g, -, ⟨x, -, rfl⟩ | ⟨-, -, -, rfl⟩⟩ := s.stage_cases t w a wd be h <;> exact hs
  | abort _ w hw => obtain ⟨d, e, held, g, -, h⟩ := State.abortGroup_of_isCapturing hw; rw [h]; exact hs
  | close _ retire mask hw hq => exact hs.append rfl hq
  | cancel _ r hr hd hl => exact hs.cancel hr hd hl _
  | head _ f hf => rw [State.changeHead_eq]; exact hs.modifyHead fun r => (hf r).draining
  | drain _ d ha hc =>
    rw [DrainLawOf] at hs ⊢
    exact ⟨hs.1, hs.2.1, hs.2.2.1, ha.trans hs.2.2.2⟩
  | frame _ d ha hc =>
    rw [DrainLawOf] at hs ⊢
    exact ⟨hs.1, hs.2.1, hs.2.2.1, ha.trans hs.2.2.2⟩
  | begin _ r rest d hq hr hl hd ha hc =>
    rw [State.reserveHead_eq]
    rw [hq] at hs ⊢
    exact hs.begin hl rfl ha
  | complete _ r f h =>
    have hd : headDrains s.queue = true := by rw [← s.drainingHead_isSome, h]; rfl
    exact hs.complete hd _
  | dropLog _ n =>
    obtain ⟨hq, hl, hrest⟩ := hs
    refine ⟨hq, ?_, hrest⟩
    have hle : (s.log.records.drop n).length ≤ s.log.records.length := List.length_drop.trans_le (Nat.sub_le _ _)
    exact (Nat.add_le_add_right hle _).trans hl
  | wipe =>
    rw [State.wiped, State.stopDraining_eq]
    obtain ⟨-, hl, hres, -⟩ := hs
    obtain ⟨hlen, hnone⟩ := s.stoppedLog_of_law hl (hres.trans s.drainingHead_isSome.symm)
    exact ⟨⟨Nat.zero_le _, nofun⟩, hlen, hnone, rfl⟩
  | reset => exact ⟨⟨Nat.zero_le _, nofun⟩, Nat.zero_le _, rfl, rfl⟩
  | _ => exact hs

/-- Settles O9: every move keeps the drain law. -/
theorem stepKeepsTheDrainLaw : Obligations.StepKeepsTheDrainLaw := by
  unfold Obligations.StepKeepsTheDrainLaw
  exact fun s t hs h => step_keeps (fun _ _ _ m => m.drainLaw) (fun _ _ h => h) h hs

/-! ## The port and the link -/

/-- R145, R149: every move keeps the link law. -/
theorem Move.linkLaw {l : Label} {s t : State} (h : Move l s t) (hs : s.LinkLaw) : t.LinkLaw := by
  cases h with
  | slc _ x hps hls =>
    refine ⟨hps.elim (fun h => h.trans hs.1) id, fun c => ?_⟩
    rw [State.setSlc_slc]
    rcases hls c with h | h
    · rw [h]; exact hs.2 c
    · exact h
  | stage _ _ w a wd be ha h => obtain ⟨d, e, held, g, -, ⟨x, -, rfl⟩ | ⟨-, -, -, rfl⟩⟩ := s.stage_cases t w a wd be h <;> exact hs
  | abort _ w hw => obtain ⟨d, e, held, g, -, h⟩ := State.abortGroup_of_isCapturing hw; rw [h]; exact hs
  | head _ f hf => rw [State.changeHead_eq]; exact hs
  | begin _ r rest d hq hr hl hd ha hc => rw [State.reserveHead_eq]; exact hs
  | wipe => rw [State.wiped, State.stopDraining_eq]; exact hs
  | reset => exact resetMeetsTheLaws.2.2.2.2.2.1
  | _ => exact hs

/-- The memory port is changed by moves so labelled alone. -/
theorem Move.mpa_eq {l : Label} {s t : State} (h : Move l s t) (hp : l ≠ .port) (hr : l ≠ .reset) : t.mpa = s.mpa := by
  cases h with
  | mpa => exact absurd rfl hp
  | reset => exact absurd rfl hr
  | stage _ _ w a wd be ha h => obtain ⟨d, e, held, g, -, ⟨x, -, rfl⟩ | ⟨-, -, -, rfl⟩⟩ := s.stage_cases t w a wd be h <;> rfl
  | abort _ w hw => obtain ⟨d, e, held, g, -, h⟩ := State.abortGroup_of_isCapturing hw; rw [h]; rfl
  | head _ f hf => rw [State.changeHead_eq]; rfl
  | begin _ r rest d hq hr hl hd ha hc => rw [State.reserveHead_eq]; rfl
  | wipe => simp [State.wiped, State.stopDraining_eq]
  | close => simp [State.closeBatch]
  | cancel => simp [State.removeBatch, State.cancelRetire, State.freeSlots]
  | complete => simp [State.completed, State.retireMembers, State.freeSlots]
  | _ => rfl

theorem Moves.mpa_eq {L : List Label} {n : Nat} {s t : State} (h : Moves L n s t) (hp : .port ∉ L) (hr : .reset ∉ L) : t.mpa = s.mpa :=
  h.keeps (P := fun u => u.mpa = s.mpa) (fun l _ _ hl m hs => by
    refine (m.mpa_eq ?_ ?_).trans hs
    · rintro rfl; exact hl.elim nofun hp
    · rintro rfl; exact hl.elim nofun hr) rfl

/-- A run that does not touch the port leaves it settled. -/
theorem Moves.portSettled {L : List Label} {n : Nat} {s t : State} (h : Moves L n s t) (hp : .port ∉ L) (hr : .reset ∉ L)
    (hs : s.PortSettled) : t.PortSettled := by
  rw [State.PortSettled, h.mpa_eq hp hr]
  exact hs

end Sys2Proof.Machine
end

section
/-! The memory port after every command: what touches it ends with the arbiter's grant. -/

namespace Sys2Proof.Machine

/-! ## The port is left settled -/

section
variable {s : State}

theorem State.PortSettled.ite {p : Prop} [Decidable p] {t u : State} (ht : t.PortSettled) (hu : u.PortSettled) :
    (if p then t else u).PortSettled := by
  split
  · exact ht
  · exact hu

theorem State.fill_portSettled (hs : s.PortSettled) (ch : Channel) (tag : Tag) (reply : Reply) : (s.fill ch tag reply).PortSettled := hs

theorem State.takeRecords_portSettled (hs : s.PortSettled) (n : Nat) : (s.takeRecords n).PortSettled := by
  unfold takeRecords
  dsimp only
  split
  · exact .ite (State.arbitrate_portSettled _) hs
  · exact hs

theorem requestConfigSet_portSettled (body : FrameBody) (hs : s.PortSettled) : (requestConfigSet body s).1.PortSettled := by
  unfold requestConfigSet longForm3
  split
  · dsimp only
    split
    · exact hs
    · split
      · exact hs
      · exact State.arbitrate_portSettled _
  · exact hs

theorem requestWinAbort_portSettled (ch : Channel) (body : FrameBody) (hs : s.PortSettled) :
    (requestWinAbort ch body s).1.PortSettled := by
  unfold requestWinAbort windowForm shortForm
  split
  · dsimp only
    split
    · split_ifs
      · exact hs
      · exact hs
      · exact State.arbitrate_portSettled _
    · exact hs
  · exact hs

theorem requestClose_portSettled (ch : Channel) (body : FrameBody) (hs : s.PortSettled) : (requestClose ch body s).1.PortSettled := by
  unfold requestClose longForm1
  split
  · dsimp only
    split
    · exact hs
    next retire mask _ =>
      split_ifs with ho hc hf
      · exact hs
      · exact hs
      · exact hs
      · exact hs
      · exact State.arbitrate_portSettled _
      · exact (Moves.labelled (L := [.close]) (.close s retire mask (by simpa using hc) (Nat.not_le.mp hf)) (by decide)).portSettled
          (by decide) (by decide) hs
  · exact hs

theorem requestCancel_portSettled (body : FrameBody) (hs : s.PortSettled) : (requestCancel body s).1.PortSettled := by
  unfold requestCancel longForm1
  split
  · dsimp only
    split
    · exact hs
    · split
      · exact hs
      · split
        · split
          · exact hs
          · exact State.arbitrate_portSettled _
        · exact hs
  · exact hs

theorem requestLogRead_portSettled (ch : Channel) (body : FrameBody) (hs : s.PortSettled) :
    (requestLogRead ch body s).1.PortSettled := by
  unfold requestLogRead shortForm
  split
  · dsimp only
    split
    · exact hs
    · exact State.takeRecords_portSettled hs _
  · exact hs

/-- A request leaves the port settled: those that may join it end with the arbiter's grant, and the others do not touch it. -/
theorem requestOf_portSettled (k : Kind) (ch : Channel) (body : FrameBody) {f : State → State × Reply}
    (hf : requestOf k ch body = some f) (hs : s.PortSettled) : (f s).1.PortSettled := by
  have hmoves := requestOf_moves s k ch body hf
  cases k
  case configSet => cases hf; exact requestConfigSet_portSettled body hs
  case winAbort => cases hf; exact requestWinAbort_portSettled ch body hs
  case close => cases hf; exact requestClose_portSettled ch body hs
  case cancel => cases hf; exact requestCancel_portSettled body hs
  case logRead => cases hf; exact requestLogRead_portSettled ch body hs
  all_goals exact hmoves.portSettled (by decide) (by decide) hs

theorem State.takeRequest_portSettled (q : Request) (hs : s.PortSettled) : (s.takeRequest q).PortSettled := by
  cases q with
  | refused ch tag why => exact State.fill_portSettled hs _ _ _
  | frame f =>
    cases hk : kindOfCode f.kind with
    | none => simp only [takeRequest, hk]; exact State.fill_portSettled hs _ _ _
    | some k =>
      cases hf : requestOf k f.ch f.body with
      | some g =>
        have htaken := takeRequest_frame k f.ch f.tag f.body g hf s
        rw [code_of_kindOfCode hk] at htaken
        rw [htaken]
        exact State.fill_portSettled (requestOf_portSettled k f.ch f.body hf hs) _ _ _
      | none =>
        simp only [takeRequest, hk]
        cases k <;> simp only [requestOf, reduceCtorEq] at hf
        · exact (s.takeWipe_moves (L := []) f).portSettled (by decide) (by decide) hs
        · exact (s.takeResync_moves (L := []) f).portSettled (by decide) (by decide) hs

theorem State.runCommands_portSettled (n : Nat) (hs : s.PortSettled) : (State.runCommands n s).PortSettled := by
  induction n generalizing s with
  | zero => exact hs
  | succ n ih =>
    unfold runCommands
    split
    · exact hs
    · split
      · exact ih (State.takeRequest_portSettled _ hs)
      · exact hs

theorem State.accept_portSettled (q : Request) (hs : s.PortSettled) : (s.accept q).PortSettled :=
  .ite hs (State.runCommands_portSettled _ hs)

theorem State.receiveByte_portSettled (b : Byte) (hs : s.PortSettled) : (s.receiveByte b).PortSettled := by
  have hset (a : Assembler) : (s.setAssembler a).PortSettled := hs
  have hthen (a : Assembler) (q : Request) : ((s.setAssembler a).accept q).PortSettled := State.accept_portSettled q (hset a)
  unfold receiveByte
  split
  · exact hs
  · exact hs
  · exact .ite hs (hset _)
  · split
    · exact .ite hs (.ite (.ite (hthen _ _) (hset _)) (.ite (hthen _ _) (hthen _ _)))
    · exact hset _
  · exact .ite (hset _) (hthen _ _)

theorem State.memoryAnswer_portSettled (err : Bool) (rd : Word) (hs : s.PortSettled) : (s.memoryAnswer err rd).PortSettled := by
  unfold memoryAnswer
  split
  · exact hs
  · exact .ite nofun (State.arbitrate_portSettled _)
  · exact State.arbitrate_portSettled _
  · exact State.arbitrate_portSettled _

theorem State.takeWriteBeat_portSettled (wd : Word) (be : BitVec 4) (hs : s.PortSettled) : (s.takeWriteBeat wd be).PortSettled := by
  unfold takeWriteBeat
  split
  · exact State.arbitrate_portSettled _
  · exact hs

theorem State.takeReadBeat_portSettled (hs : s.PortSettled) : s.takeReadBeat.PortSettled := by
  unfold takeReadBeat
  split
  · exact State.arbitrate_portSettled _
  · exact hs

theorem State.expireStall_portSettled (hs : s.PortSettled) : s.expireStall.PortSettled :=
  (s.expireStall_moves (L := [.event .stallTimeout, .event .writeLost]) (by decide) (by decide)).portSettled (by decide) (by decide) hs

theorem State.tick_portSettled (hs : s.PortSettled) : s.tick.PortSettled := by
  have hstall : s.tickStall.PortSettled :=
    (s.tickStall_moves (L := [.event .stallTimeout, .event .writeLost]) (by decide) (by decide)).portSettled (by decide) (by decide) hs
  have hcounted : s.tickStall.countStarvation.PortSettled := by
    unfold countStarvation
    exact .ite hstall hstall
  exact .ite (.ite (.ite (State.arbitrate_portSettled _) hcounted) hstall) hs

end

/-- R115: every command leaves the port settled. -/
theorem exec_portSettled {i : Instr} {s t : State} (h : exec i s = .next t) (hs : s.PortSettled) : t.PortSettled := by
  have request (k : Kind) (ch : Channel) (tag : Tag) (body : FrameBody) (hi : i = commandOf k ch tag body) : t.PortSettled := by
    subst hi
    rw [exec_commandOf_eq] at h
    cases h
    exact .ite (State.accept_portSettled _ hs) hs
  cases i with
  | hardwareReset => cases h; exact resetMeetsTheLaws.2.2.2.2.1
  | resetRelease => cases h; exact .ite hs hs
  | quietStart => cases h; exact .ite (.ite hs (State.arbitrate_portSettled _)) hs
  | quietEnd => cases h; exact .ite (.ite ((s.quietEnd_moves (L := [])).portSettled (by decide) (by decide) hs) hs) hs
  | starvationTimerExpiry => cases h; exact .ite (.ite (State.arbitrate_portSettled _) hs) hs
  | drainStart => cases h; exact .ite (.ite (State.arbitrate_portSettled _) hs) hs
  | wipeEffect => cases h; exact .ite (.ite (State.arbitrate_portSettled _) hs) hs
  | memoryBeatAnswer err rd => cases h; exact .ite (State.memoryAnswer_portSettled err rd hs) hs
  | hostTransactionRequest adr wr cnt =>
    cases h
    exact .ite ((s.takeRequestFromHost_moves (L := []) _).portSettled (by decide) (by decide) hs) hs
  | hostWriteBeat wd be => cases h; exact .ite (State.takeWriteBeat_portSettled wd be hs) hs
  | hostReadBeat => cases h; exact .ite (State.takeReadBeat_portSettled hs) hs
  | passWriteIssue => cases h; exact .ite (State.arbitrate_portSettled _) hs
  | heldBeatRetry => cases h; exact .ite (State.arbitrate_portSettled _) hs
  | heldBeatRelease => cases h; exact .ite (State.arbitrate_portSettled _) hs
  | stallLimitExpiry => cases h; exact .ite (State.expireStall_portSettled hs) hs
  | transferPeriodStart => cases h; exact .ite (.ite hs hs) hs
  | transferPeriodEnd =>
    cases h
    exact .ite (.ite hs ((s.endPeriod_moves (L := [.event .linkError]) (by decide)).portSettled (by decide) (by decide) hs)) hs
  | byteReceived b => cases h; exact .ite (State.receiveByte_portSettled b hs) hs
  | byteSent => cases h; exact .ite ((s.sendByte_moves (L := [])).portSettled (by decide) (by decide) hs) hs
  | responseSent => cases h; exact .ite ((s.sendRest_moves (L := [])).portSettled (by decide) (by decide) hs) hs
  | headerCheckFailure => cases h; exact .ite hs hs
  | frameFormRefusal ch tag fault =>
    cases h
    exact .ite (State.accept_portSettled _ ((s.afterFormFault_moves (L := []) fault).portSettled (by decide) (by decide) hs)) hs
  | payloadCheckFailure ch tag => cases h; exact .ite (State.accept_portSettled _ hs) hs
  | linkOverrun => cases h; exact .ite (.ite hs hs) hs
  | unknownKind kind ch tag body => cases h; exact .ite (State.accept_portSettled _ hs) hs
  | ident ch tag body => exact request .ident ch tag body rfl
  | status ch tag body => exact request .status ch tag body rfl
  | configGet ch tag body => exact request .configGet ch tag body rfl
  | configSet ch tag body => exact request .configSet ch tag body rfl
  | wipe ch tag body => exact request .wipe ch tag body rfl
  | setLimit ch tag body => exact request .setLimit ch tag body rfl
  | resync ch tag body => exact request .resync ch tag body rfl
  | winDefine ch tag body => exact request .winDefine ch tag body rfl
  | winStart ch tag body => exact request .winStart ch tag body rfl
  | winRelease ch tag body => exact request .winRelease ch tag body rfl
  | winQuery ch tag body => exact request .winQuery ch tag body rfl
  | winAbort ch tag body => exact request .winAbort ch tag body rfl
  | close ch tag body => exact request .close ch tag body rfl
  | cancel ch tag body => exact request .cancel ch tag body rfl
  | logRead ch tag body => exact request .logRead ch tag body rfl
  | sigReset ch tag body => exact request .sigReset ch tag body rfl
  | eventAck ch tag body => exact request .eventAck ch tag body rfl

/-- Settles O10: every command ends with the port granted or untouched, and every move keeps the link law. -/
theorem stepKeepsPortAndLink : Obligations.StepKeepsPortAndLink := by
  unfold Obligations.StepKeepsPortAndLink
  intro s t h
  refine ⟨fun hs => ?_, step_keeps (fun _ _ _ m => m.linkLaw) (fun _ _ h => h) h⟩
  unfold step at h
  split at h
  next c rest _ => exact exec_portSettled h hs
  next =>
    cases h
    exact State.tick_portSettled hs

end Sys2Proof.Machine
end

section
/-! RESETN low; and the frame count and the events, which only the moves that name them change. -/

namespace Sys2Proof.Machine

/-! ## RESETN low -/

/-- Settles O4: every arm tests RESETN, and four of them then take the level of their line. -/
theorem resetnLowHoldsEverything : Obligations.ResetnLowHoldsEverything := by
  unfold Obligations.ResetnLowHoldsEverything
  intro i s hs hreset hrelease
  have low {t u : State} : (Host.Outcome.next (if s.resetn = true then t else u) : Host.Outcome State Fault Refusal) = .next u := by
    rw [hs, if_neg Bool.false_ne_true]
  cases i with
  | hardwareReset => exact absurd rfl hreset
  | resetRelease => exact absurd rfl hrelease
  | _ => exact low

/-! ## The frame count -/

theorem Move.frameCount {l : Label} {s t : State} (h : Move l s t) (hf : l ≠ .frame) (hr : l ≠ .reset) :
    t.drain.frameCount = s.drain.frameCount := by
  cases h with
  | frame => exact absurd rfl hf
  | reset => exact absurd rfl hr
  | drain _ d ha hc => exact hc
  | begin _ r rest d hq hr hl hd ha hc => exact hc
  | stage _ _ w a wd be ha h => obtain ⟨d, e, held, g, -, ⟨x, -, rfl⟩ | ⟨-, -, -, rfl⟩⟩ := s.stage_cases t w a wd be h <;> rfl
  | abort _ w hw => obtain ⟨d, e, held, g, -, h⟩ := State.abortGroup_of_isCapturing hw; rw [h]; rfl
  | head _ f hf => rw [State.changeHead_eq]; rfl
  | wipe => simp [State.wiped, State.stopDraining_eq]
  | close => simp [State.closeBatch]
  | cancel => simp [State.removeBatch, State.cancelRetire, State.freeSlots]
  | complete => simp [State.completed, State.retireMembers, State.freeSlots]
  | _ => rfl

/-- R77: a run that counts no frame leaves the frame count. -/
theorem Moves.frameCount {L : List Label} {n : Nat} {s t : State} (h : Moves L n s t) (hf : .frame ∉ L) (hr : .reset ∉ L) :
    t.drain.frameCount = s.drain.frameCount :=
  h.keeps (P := fun u => u.drain.frameCount = s.drain.frameCount) (fun l _ _ hl m hs => by
    refine (m.frameCount ?_ ?_).trans hs
    · rintro rfl; exact hl.elim nofun hf
    · rintro rfl; exact hl.elim nofun hr) rfl

/-- R77, R91: a quiet start counts one frame. -/
theorem State.quietStart_frameCount (s : State) : s.quietStart.drain.frameCount = s.drain.frameCount + 1 :=
  (((State.proceed_moves _ (List.Subset.refl drainLabels)).frameCount (by decide) (by decide)).trans rfl :)

/-! ## The events -/

theorem Event.mask_getLsbD (e f : Event) : e.mask.getLsbD f.bit = decide (f = e) := by
  cases e <;> cases f <;> rfl

theorem EventSet.has_with (set : EventSet) (e f : Event) :
    EventSet.has (EventSet.with set e) f = (EventSet.has set f || decide (f = e)) := by
  rw [EventSet.has, EventSet.with, BitVec.getLsbD_or, Event.mask_getLsbD]
  rfl

/-- R169 to R173: what a move of each label does to the events. -/
def Label.Changes (before after : EventSet) : Label → Prop
  | .event e => after = EventSet.with before e
  | .acknowledge => ∃ named, after = EventSet.without before named
  | .reset => after = 0
  | .release => after = Event.restarted.mask
  | .inner | .port | .frame | .close => after = before

theorem Move.events {l : Label} {s t : State} (h : Move l s t) : l.Changes s.events t.events := by
  cases h with
  | stage _ _ w a wd be ha h => obtain ⟨d, e, held, g, -, ⟨x, -, rfl⟩ | ⟨-, -, -, rfl⟩⟩ := s.stage_cases t w a wd be h <;> rfl
  | abort _ w hw => obtain ⟨d, e, held, g, -, h⟩ := State.abortGroup_of_isCapturing hw; rw [h]; rfl
  | head _ f hf => rw [State.changeHead_eq]; rfl
  | begin _ r rest d hq hr hl hd ha hc => rw [State.reserveHead_eq]; rfl
  | acknowledge _ named => exact ⟨named, rfl⟩
  | wipe => simp [Label.Changes, State.wiped, State.stopDraining_eq]
  | close => simp [Label.Changes, State.closeBatch]
  | cancel => simp [Label.Changes, State.removeBatch, State.cancelRetire, State.freeSlots]
  | complete => simp [Label.Changes, State.completed, State.retireMembers, State.freeSlots]
  | _ => rfl

/-- R173: only an acknowledgement and RESETN clear an event. -/
theorem Label.Changes.has_of_has {l : Label} {before after : EventSet} (h : l.Changes before after) (ha : l ≠ .acknowledge)
    (hr : l ≠ .reset) (hl : l ≠ .release) {e : Event} (he : EventSet.has before e = true) : EventSet.has after e = true := by
  cases l with
  | event f => rw [h, EventSet.has_with, he]; rfl
  | acknowledge => exact absurd rfl ha
  | reset => exact absurd rfl hr
  | release => exact absurd rfl hl
  | inner | port | frame | close => rw [h]; exact he

/-- R169: an event that a move sets is its own, or RESTARTED at the release of RESETN. -/
theorem Label.Changes.label_of_has {l : Label} {before after : EventSet} (h : l.Changes before after) {e : Event}
    (he : EventSet.has after e = true) : EventSet.has before e = true ∨ l = .event e ∨ l = .release ∧ e = .restarted := by
  cases l with
  | event f =>
    rw [h, EventSet.has_with, Bool.or_eq_true, decide_eq_true_eq] at he
    exact he.imp_right fun hef => .inl (by rw [hef])
  | acknowledge =>
    obtain ⟨named, rfl⟩ := h
    rw [EventSet.has, EventSet.without, BitVec.getLsbD_and, Bool.and_eq_true] at he
    exact .inl he.1
  | reset =>
    rw [h, EventSet.has, BitVec.ofNat_eq_ofNat, BitVec.getLsbD_zero] at he
    cases he
  | release =>
    rw [h, EventSet.has, Event.mask_getLsbD, decide_eq_true_eq] at he
    exact .inr (.inr ⟨rfl, he⟩)
  | inner | port | frame | close => rw [h] at he; exact .inl he

section
variable {L : List Label} {n : Nat} {s t : State}

theorem Moves.has_of_has (h : Moves L n s t) (ha : .acknowledge ∉ L) (hr : .reset ∉ L) (hl : .release ∉ L) {e : Event}
    (he : EventSet.has s.events e = true) : EventSet.has t.events e = true :=
  h.keeps (P := fun u => EventSet.has u.events e = true) (fun l _ _ hL m hs => by
    refine m.events.has_of_has ?_ ?_ ?_ hs
    · rintro rfl; exact hL.elim nofun ha
    · rintro rfl; exact hL.elim nofun hr
    · rintro rfl; exact hL.elim nofun hl) he

theorem Moves.label_of_has (h : Moves L n s t) {e : Event} (he : EventSet.has t.events e = true) :
    EventSet.has s.events e = true ∨ .event e ∈ L ∨ .release ∈ L ∧ e = .restarted := by
  have hkept := h.keeps (P := fun u => EventSet.has u.events e = true →
    EventSet.has s.events e = true ∨ .event e ∈ L ∨ .release ∈ L ∧ e = .restarted) (fun l _ _ hL m hs ht => by
      rcases m.events.label_of_has ht with h | rfl | ⟨rfl, he⟩
      · exact hs h
      · exact .inr (.inl (hL.elim nofun id))
      · exact .inr (.inr ⟨hL.elim nofun id, he⟩)) .inl
  exact hkept he

end

/-! ## What the labels of a command allow -/

/-- Table 9-1: a command of this label, taken with no request waiting. -/
def Label.allowedBy (i : Instr) : Label → Bool
  | .event e => e.causedBy i
  | .acknowledge => (i matches .eventAck _ _ _ | .byteReceived _)
  | .reset => decide (i = .hardwareReset)
  | .release => decide (i = .resetRelease)
  | .inner | .port | .frame | .close => true

/-- R154: a frame of an unlisted kind asks nothing of any block. -/
theorem commandLabels_unknownKind {kind : Byte} {ch : Channel} {tag : Tag} {body : FrameBody}
    (h : (Instr.unknownKind kind ch tag body).wellFormed = true) :
    commandLabels (.unknownKind kind ch tag body) = [.event .linkOverrun] := by
  have hnone : kindOfCode kind = none := by
    simp only [Instr.wellFormed, unknownKindCode, Bool.and_eq_true, Bool.not_eq_true', List.contains_eq_mem,
      decide_eq_false_iff_not] at h
    exact (kindOfCode_eq_none_iff kind).mpr h.1.1
  simp only [commandLabels, Request.labels, hnone, Option.elim_none]

/-- Table 9-1: a well-formed command has only labels that the rules allow it. -/
theorem commandLabels_allowed {i : Instr} (h : i.wellFormed = true) : ∀ l ∈ commandLabels i, l.allowedBy i = true := by
  rw [← List.all_eq_true]
  cases i with
  | unknownKind kind ch tag body => rw [commandLabels_unknownKind h]; rfl
  | memoryBeatAnswer err rd => cases err <;> rfl
  | _ => rfl

/-- R77, R169: a command of this label, whatever requests wait. -/
def Label.namedBy (i : Instr) : Label → Bool
  | .frame => decide (i = .quietStart)
  | .reset => decide (i = .hardwareReset)
  | .release => decide (i = .resetRelease)
  | .event e => decide (e ≠ .restarted)
  | .inner | .port | .acknowledge | .close => true

/-- R77, R169: a frame is counted, and RESETN moved, by the commands so named alone, and RESTARTED is set by none but its release. -/
theorem labels_named (i : Instr) : ∀ l ∈ commandLabels i ++ .event .linkOverrun :: requestLabels, l.namedBy i = true := by
  have hrequest : ∀ l ∈ Label.event .linkOverrun :: requestLabels, l.namedBy i = true := by
    rw [← List.all_eq_true]
    rfl
  rw [List.forall_mem_append]
  refine ⟨?_, hrequest⟩
  cases i with
  | unknownKind kind ch tag body =>
    exact fun l hl => hrequest l (List.cons_subset_cons _ (Request.labels_subset _) hl)
  | memoryBeatAnswer err rd => rw [← List.all_eq_true]; cases err <;> rfl
  | _ => rw [← List.all_eq_true]; rfl

/-! ## ATTN -/

theorem anyFilled_iff (places : List Place) : anyFilled places = true ↔ ∃ r, Place.filled r ∈ places := by
  rw [anyFilled, List.any_eq_true]
  constructor
  · rintro ⟨p, hp, h⟩
    cases p with
    | filled r => exact ⟨r, hp⟩
    | awaiting q => cases h
  · rintro ⟨r, hr⟩
    exact ⟨_, hr, rfl⟩

/-- R172: ATTN by its two causes. -/
theorem State.attn_iff (s : State) : s.attn = true ↔ s.resetn = true ∧
    ((∃ k < 11, s.events.getLsbD k = true ∧ s.config.eventMask.getLsbD k = true) ∨ ∃ r, Place.filled r ∈ s.slc.responses) := by
  have hbits : s.events &&& s.config.eventMask ≠ 0#11 ↔
      ∃ k < 11, s.events.getLsbD k = true ∧ s.config.eventMask.getLsbD k = true := by
    rw [ne_eq, BitVec.eq_of_getLsbD_eq_iff]
    simp
  rw [attn, Bool.and_eq_true, Bool.or_eq_true, anyFilled_iff, bne_iff_ne, hbits]

/-! ## The statement -/

/-- R77: what the commands do to the frame count. -/
theorem exec_frameCount {i : Instr} {s t : State} (h : exec i s = .next t) :
    (i ≠ .quietStart → i ≠ .hardwareReset → t.drain.frameCount = s.drain.frameCount) ∧
    (i = .quietStart →
      t.drain.frameCount = if s.resetn && !s.quiet then s.drain.frameCount + 1 else s.drain.frameCount) := by
  refine ⟨fun hi hr => ?_, ?_⟩
  · exact (exec_moves h).frameCount (fun hl => hi (of_decide_eq_true (labels_named i _ hl)))
      fun hl => hr (of_decide_eq_true (labels_named i _ hl))
  · rintro rfl
    cases h
    cases hresetn : s.resetn <;> cases hquiet : s.quiet
    · rfl
    · rfl
    · exact s.quietStart_frameCount
    · rfl

/-- R170: RESTARTED is set by the release of RESETN alone. -/
theorem exec_restarted {i : Instr} {s t : State} (h : exec i s = .next t) (hi : i ≠ .resetRelease)
    (he : EventSet.has t.events .restarted = true) : EventSet.has s.events .restarted = true := by
  rcases (exec_moves h).label_of_has he with he | hl | ⟨hl, -⟩
  · exact he
  · exact absurd (labels_named i _ hl) Bool.false_ne_true
  · exact absurd (of_decide_eq_true (labels_named i _ hl)) hi

/-- R173: a command that is neither EVENT_ACK nor a received byte, nor moves RESETN, leaves every pending event pending. -/
theorem exec_has_of_has {i : Instr} {s t : State} (h : exec i s = .next t) (hw : i.wellFormed = true) (hreset : i ≠ .hardwareReset)
    (hack : ∀ ch tag body, i ≠ .eventAck ch tag body) (hbyte : ∀ b, i ≠ .byteReceived b)
    (hrelease : i = .resetRelease → s.resetn = true) (hrest : firstAwaiting s.slc.responses = none) {e : Event}
    (he : EventSet.has s.events e = true) : EventSet.has t.events e = true := by
  by_cases hi : i = .resetRelease
  · have hs := hrelease hi
    subst hi
    have ht : t = s := by
      cases h
      exact if_pos hs
    rw [ht]
    exact he
  refine (exec_moves_of_rest hrest h).has_of_has (fun hl => ?_) (fun hl => ?_) (fun hl => ?_) he
  · cases i with
    | eventAck ch tag body => exact hack _ _ _ rfl
    | byteReceived b => exact hbyte _ rfl
    | _ => exact absurd (commandLabels_allowed hw _ hl) Bool.false_ne_true
  · exact hreset (of_decide_eq_true (commandLabels_allowed hw _ hl))
  · exact hi (of_decide_eq_true (commandLabels_allowed hw _ hl))

/-- R169 and Table 9-1: an event that a command sets is one whose cause it may hold. -/
theorem exec_causedBy {i : Instr} {s t : State} (h : exec i s = .next t) (hw : i.wellFormed = true)
    (hrest : firstAwaiting s.slc.responses = none) {e : Event} (he : EventSet.has t.events e = true) :
    EventSet.has s.events e = true ∨ e.causedBy i = true := by
  refine ((exec_moves_of_rest hrest h).label_of_has he).imp_right ?_
  rintro (hl | ⟨hl, rfl⟩)
  · exact commandLabels_allowed hw _ hl
  · rw [of_decide_eq_true (commandLabels_allowed hw _ hl)]
    rfl

/-- Settles O11: each clause reads the labels of the command; with a request waiting, those of all requests too. -/
theorem frameCountAndEventsChangeAsNamed : Obligations.FrameCountAndEventsChangeAsNamed := by
  unfold Obligations.FrameCountAndEventsChangeAsNamed
  refine ⟨fun i s t h => ⟨(exec_frameCount h).1, (exec_frameCount h).2, exec_restarted h, ?_, ?_⟩, State.attn_iff⟩
  · exact fun hw hreset hack hbyte hrelease hrest e => exec_has_of_has h hw hreset hack hbyte hrelease hrest
  · exact fun hw hrest e => exec_causedBy h hw hrest

end Sys2Proof.Machine
end

section
/-! The groups of a window in the commit queue, and the advance of its epoch past them. -/

namespace Sys2Proof.Machine

/-! ## The groups of a window (R57) -/

/-- R57: the epoch of the window's group in a batch, if the batch has one. -/
def BatchRecord.epochOf (r : BatchRecord) (w : WindowNo) : Option Epoch := (r.members.find? (·.window = w)).map (·.epoch)

theorem queueGroups_eq (queue : List BatchRecord) (w : WindowNo) :
    queueGroups queue w = queue.filterMap fun r => (r.epochOf w).map fun e => (r.seq, e) := by
  simp [queueGroups, BatchRecord.epochOf, Function.comp_def]

theorem mem_queueGroups (queue : List BatchRecord) (w : WindowNo) (q : Sequence) (e : Epoch) :
    (q, e) ∈ queueGroups queue w ↔ ∃ r ∈ queue, r.epochOf w = some e ∧ r.seq = q := by
  simp [queueGroups_eq, and_comm]

/-- The epochs of the window's groups in the queue, in closing order. -/
theorem queueGroups_epochs (queue : List BatchRecord) (w : WindowNo) :
    (queueGroups queue w).map Prod.snd = queue.filterMap (·.epochOf w) := by
  simp [queueGroups_eq, List.map_filterMap, Function.comp_def]

theorem queueGroups_seqs (queue : List BatchRecord) (w : WindowNo) :
    (queueGroups queue w).map Prod.fst = (queue.filter fun r => (r.epochOf w).isSome).map (·.seq) := by
  rw [queueGroups_eq, List.map_filterMap, ← List.filterMap_eq_map, List.filterMap_filter]
  refine List.filterMap_congr fun r _ => ?_
  cases r.epochOf w <;> rfl

theorem mem_epochs (queue : List BatchRecord) (w : WindowNo) (e : Epoch) :
    e ∈ (queueGroups queue w).map Prod.snd ↔ ∃ r ∈ queue, r.epochOf w = some e := by
  rw [queueGroups_epochs, List.mem_filterMap]

theorem queueGroups_append (queue rest : List BatchRecord) (w : WindowNo) :
    queueGroups (queue ++ rest) w = queueGroups queue w ++ queueGroups rest w := by
  rw [queueGroups, List.filterMap_append]
  rfl

theorem queueGroups_length_le (queue : List BatchRecord) (w : WindowNo) : (queueGroups queue w).length ≤ queue.length :=
  List.length_filterMap_le _ _

/-- R26: a slot's key belongs to a batch exactly when the batch's group of its window has its epoch. -/
theorem Slot.inBatch_iff {r : BatchRecord} (hr : r.members.Pairwise fun m n => m.window < n.window) (x : Slot) :
    x.inBatch r.members = true ↔ r.epochOf x.window = some x.epoch := by
  have hunique : ∀ m ∈ r.members, ∀ n ∈ r.members, m.window = n.window → m = n := by
    have hnodup : (r.members.map (·.window)).Nodup := List.pairwise_map.mpr (hr.imp ne_of_lt)
    exact fun m hm n hn hmn => List.inj_on_of_nodup_map hnodup hm hn hmn
  rw [Slot.inBatch, List.any_eq_true, BatchRecord.epochOf, Option.map_eq_some_iff]
  simp only [Bool.and_eq_true, decide_eq_true_eq]
  constructor
  · rintro ⟨m, hm, hw, he⟩
    cases hf : r.members.find? (·.window = x.window) with
    | none => exact absurd hw.symm (by simpa using List.find?_eq_none.mp hf m hm)
    | some n =>
      have hn : n.window = x.window := by simpa using List.find?_some hf
      rw [hunique n (List.mem_of_find?_eq_some hf) m hm (hn.trans hw)]
      exact ⟨m, rfl, he.symm⟩
  · rintro ⟨m, hm, he⟩
    have hw : m.window = x.window := by simpa using List.find?_some hm
    exact ⟨m, List.mem_of_find?_eq_some hm, hw.symm, he.symm⟩

/-! ## The advance of an epoch (R14) -/

/-- R14: the advance passes over values of `used` alone, and ends at one that is not, or at its bound. -/
theorem advanceEpoch_spec (used : List Epoch) (n : Nat) (e : Epoch) :
    ∃ k, 1 ≤ k ∧ k ≤ n + 1 ∧ advanceEpoch used n e = e + BitVec.ofNat 8 k ∧
      (advanceEpoch used n e ∉ used ∨ k = n + 1) ∧ ∀ j, 1 ≤ j → j < k → e + BitVec.ofNat 8 j ∈ used := by
  induction n generalizing e with
  | zero => exact ⟨1, le_rfl, le_rfl, rfl, .inr rfl, fun j h1 h2 => by omega⟩
  | succ n ih =>
    by_cases hused : e + 1 ∈ used
    · obtain ⟨k, hk1, hkn, heq, hend, hpassed⟩ := ih (e + 1)
      have hadd (j : Nat) : e + 1 + BitVec.ofNat 8 j = e + BitVec.ofNat 8 (j + 1) := by
        rw [BitVec.add_assoc, BitVec.add_comm 1, BitVec.ofNat_add]
        rfl
      have hstep : advanceEpoch used (n + 1) e = advanceEpoch used n (e + 1) := by rw [advanceEpoch, if_pos hused]
      refine ⟨k + 1, by omega, by omega, ?_, ?_, fun j h1 h2 => ?_⟩
      · rw [hstep, heq, hadd]
      · rw [hstep]
        exact hend.imp_right fun h => by omega
      · obtain ⟨i, rfl⟩ : ∃ i, j = i + 1 := ⟨j - 1, by omega⟩
        cases i with
        | zero => exact hused
        | succ i =>
          rw [← hadd]
          exact hpassed (i + 1) (by omega) (by omega)
    · have hstep : advanceEpoch used (n + 1) e = e + 1 := by rw [advanceEpoch, if_neg hused]
      exact ⟨1, le_rfl, by omega, hstep, .inl (hstep ▸ hused), fun j h1 h2 => by omega⟩

/-- R14: fewer than 255 values in use leave the advance a value not in use, within as many steps and one more. -/
theorem advanceEpoch_of_length (used : List Epoch) (e : Epoch) (h : used.length < 255) :
    ∃ k, 1 ≤ k ∧ k ≤ used.length + 1 ∧ advanceEpoch used 255 e = e + BitVec.ofNat 8 k ∧ advanceEpoch used 255 e ∉ used ∧
      ∀ j, 1 ≤ j → j < k → e + BitVec.ofNat 8 j ∈ used := by
  obtain ⟨k, hk1, hkn, heq, hend, hpassed⟩ := advanceEpoch_spec used 255 e
  have hnodup : ((List.range (k - 1)).map fun j => e + BitVec.ofNat 8 (j + 1)).Nodup := by
    refine List.Nodup.map_on (fun i hi j hj hij => ?_) List.nodup_range
    rw [List.mem_range] at hi hj
    have hnat := congrArg BitVec.toNat ((BitVec.add_right_inj e).mp hij)
    rw [BitVec.toNat_ofNat, BitVec.toNat_ofNat] at hnat
    omega
  have hsubset : ((List.range (k - 1)).map fun j => e + BitVec.ofNat 8 (j + 1)) ⊆ used := by
    intro x hx
    obtain ⟨j, hj, rfl⟩ := List.mem_map.mp hx
    rw [List.mem_range] at hj
    exact hpassed (j + 1) (by omega) (by omega)
  have hle := (List.subperm_of_subset hnodup hsubset).length_le
  rw [List.length_map, List.length_range] at hle
  exact ⟨k, hk1, by omega, heq, hend.resolve_right (by omega), hpassed⟩

/-- R14: the advanced epoch is that of no group of the window in the queue. -/
theorem State.nextEpoch_fresh (s : State) (w : WindowNo) (e : Epoch) (h : s.queue.length < 255) :
    s.nextEpoch w e ∉ (queueGroups s.queue w).map Prod.snd := by
  obtain ⟨-, -, -, -, hfresh, -⟩ := advanceEpoch_of_length ((queueGroups s.queue w).map Prod.snd) e
    (by rw [List.length_map]; exact (queueGroups_length_le _ _).trans_lt h)
  exact hfresh

/-- Settles O36: at most eight epochs are in use, and the advance passes over no others. -/
theorem epochAdvancePassesOver : Obligations.EpochAdvancePassesOver := by
  unfold Obligations.EpochAdvancePassesOver
  intro s w e hlen
  have hused : ((queueGroups s.queue w).map Prod.snd).length ≤ 8 := by
    rw [List.length_map]
    exact (queueGroups_length_le _ _).trans hlen
  have hmem (x : Epoch) : x ∈ (queueGroups s.queue w).map Prod.snd ↔
      ∃ r ∈ s.queue, ∃ m ∈ r.members.find? (·.window = w), m.epoch = x := by
    rw [mem_epochs]
    simp only [BatchRecord.epochOf, Option.map_eq_some_iff, Option.mem_def]
  obtain ⟨k, hk1, hkn, heq, hfresh, hpassed⟩ := advanceEpoch_of_length ((queueGroups s.queue w).map Prod.snd) e (by omega)
  refine ⟨k, hk1, by omega, heq, fun r hr m hm hme => ?_, fun j h1 h2 => (hmem _).mp (hpassed j h1 h2)⟩
  exact hfresh ((hmem _).mpr ⟨r, hr, m, hm, hme⟩)

end Sys2Proof.Machine
end

section
/-! The slot law, taken apart: what it says of each window's entry, of each batch and of the slots of batches; and the counting of
slots that it rests on. -/

namespace Sys2Proof.Machine

/-! ## Counting slots and their bytes -/

/-- The slots that satisfy `p` and their valid bytes, counted. -/
def tally (p : Slot → Bool) (slots : List Slot) : Nat × Nat := (slots.countP p, validBytes p slots)

section
variable (p q : Slot → Bool) (slots : List Slot)

theorem tally_cons (x : Slot) : tally p (x :: slots) = (if p x then (1, validCount x.cells) else 0) + tally p slots := by
  unfold tally validBytes
  cases hp : p x <;> simp [hp, Nat.add_comm]

theorem tally_perm {xs ys : List Slot} (h : xs.Perm ys) : tally p xs = tally p ys := by
  rw [tally, tally, h.countP_eq, validBytes, validBytes, ((h.filter p).map _).sum_eq]

variable {p q slots}

theorem tally_congr (h : ∀ x ∈ slots, p x = q x) : tally p slots = tally q slots := by
  rw [tally, tally, validBytes, validBytes, List.filter_congr h, List.countP_congr fun x hx => by rw [h x hx]]

theorem tally_map {f : Slot → Slot} (h : ∀ x ∈ slots, validCount (f x).cells = validCount x.cells) :
    tally p (slots.map f) = tally (fun x => p (f x)) slots := by
  induction slots with
  | nil => rfl
  | cons x xs ih =>
    rw [List.map_cons, tally_cons, tally_cons, ih fun y hy => h y (List.mem_cons_of_mem x hy), h x List.mem_cons_self]

theorem tally_filter : tally p (slots.filter q) = tally (fun x => p x && q x) slots := by
  rw [tally, tally, validBytes, validBytes, List.countP_filter, List.filter_filter]

theorem tally_eq_zero (h : ∀ x ∈ slots, p x = false) : tally p slots = 0 := by
  have hnone : ∀ x ∈ slots, ¬p x = true := fun x hx => Bool.eq_false_iff.mp (h x hx)
  rw [tally, validBytes, List.countP_eq_zero.mpr hnone, List.filter_eq_nil_iff.mpr hnone]
  rfl

theorem tally_or (h : ∀ x ∈ slots, p x = true → q x = false) : tally (fun x => p x || q x) slots = tally p slots + tally q slots := by
  induction slots with
  | nil => rfl
  | cons x xs ih =>
    rw [tally_cons, tally_cons, tally_cons, ih fun y hy => h y (List.mem_cons_of_mem x hy)]
    have hx := h x List.mem_cons_self
    cases hp : p x with
    | true => rw [hx hp]; simp [add_assoc]
    | false => simp [add_left_comm]

/-- One slot of a store changed in its bytes alone. -/
theorem tally_changeSlots (hs : slotsOrdered slots) {x : Slot} (hx : x ∈ slots) {k : Slot → Bool} (hk : ∀ y ∈ slots, k y = true ↔ y = x)
    {f : Slot → Slot} (hp : p (f x) = p x) {n : Nat} (hn : validCount (f x).cells = validCount x.cells + n) :
    tally p (changeSlots k f slots) = tally p slots + if p x then (0, n) else 0 := by
  have hnodup : slots.Nodup := hs.imp fun {a b} hab (h : a = b) =>
    Bool.false_ne_true (a.before_irrefl.symm.trans (h ▸ hab))
  have hperm := List.perm_cons_erase hx
  have hrest : (slots.erase x).map (fun y => if k y then f y else y) = slots.erase x := by
    refine (List.map_congr_left fun y hy => ?_).trans (List.map_id _)
    obtain ⟨hne, hy⟩ := hnodup.mem_erase_iff.mp hy
    exact if_neg fun h => hne ((hk y hy).mp h)
  rw [changeSlots, tally_perm p (hperm.map _), List.map_cons, hrest, if_pos ((hk x hx).mpr rfl), tally_cons, hp, hn, tally_perm p hperm,
    tally_cons]
  cases p x
  · simp
  · ext
    · simp
    · simp; omega

end

/-! ## The slot law, taken apart -/

/-- R1: the epoch of the entry's open group. -/
def WindowEntry.openEpoch (e : WindowEntry) : Option Epoch := e.openGroup.map Prod.fst

/-- R14, R18, R28: what the entry's state says of the window's groups. -/
def WindowEntry.GroupsIn (slots : List Slot) (queue : List BatchRecord) (w : WindowNo) : WindowEntry → Prop
  | .free | .idle _ _ => queueGroups queue w = []
  | .capturing _ e _ g => (g.lines, g.bytes) = tally (Slot.openOf w) slots ∧ e ∉ (queueGroups queue w).map Prod.snd
  | .retiring _ _ _ q => ((queueGroups queue w).map Prod.fst).getLast? = some q

/-- What the slot law says of one window's entry. -/
structure PlaceLaw (slots : List Slot) (queue : List BatchRecord) (w : WindowNo) (e : WindowEntry) : Prop where
  held : e.slotsHeld = slots.countP fun x => x.window = w
  opened : ∀ x ∈ slots, x.window = w → x.status = .opened → e.openEpoch = some x.epoch
  groups : e.GroupsIn slots queue w

/-- What the slot law says of one batch. -/
structure BatchLaw (slots : List Slot) (r : BatchRecord) : Prop where
  members : r.members.Pairwise fun m n => m.window < n.window
  totals : (r.lines, r.bytes) = tally (Slot.inBatch r.members) slots
  status : ∀ x ∈ slots, x.inBatch r.members = true → x.status = if r.isDraining then .draining else .queued

/-- The slot law by its parts: each window's entry, each batch, the slots of batches, the epochs, and the held beat. -/
theorem State.slotLaw_iff (s : State) : s.SlotLaw ↔
    (∀ w, PlaceLaw s.slots s.queue w (s.win w)) ∧ (∀ r ∈ s.queue, BatchLaw s.slots r) ∧
      (∀ x ∈ s.slots, x.status ≠ .opened → ∃ r ∈ s.queue, x.inBatch r.members = true) ∧
      (∀ w, ((queueGroups s.queue w).map Prod.snd).Nodup) ∧ ∀ h ∈ s.hpi.held, h.addr % 4 = 0 := by
  constructor
  · intro h
    refine ⟨fun w => ⟨h.held w, ?_, ?_⟩, fun r hr => ?_, h.closed, h.epochs, h.beat⟩
    · rintro x hx rfl ho
      obtain ⟨d, n, g, hwin⟩ := h.opened x hx ho
      rw [hwin]
      rfl
    · cases hwin : s.win w with
      | free => exact h.idle w (.inr (by rw [hwin]; rfl))
      | idle d e => exact h.idle w (.inl (by rw [hwin]; rfl))
      | capturing d e n g =>
        obtain ⟨hl, hb, he⟩ := h.group w d e n g hwin
        exact ⟨Prod.ext hl hb, he⟩
      | retiring d e n q => exact h.retiring w d e n q hwin
    · obtain ⟨hm, hl, hb, hst⟩ := h.batch r hr
      exact ⟨hm, Prod.ext hl hb, hst⟩
  · rintro ⟨hplace, hbatch, hclosed, hepochs, hbeat⟩
    have hgroups (w : WindowNo) := (hplace w).groups
    exact
      { held := fun w => (hplace w).held
        opened := fun x hx ho => by
          have he := (hplace x.window).opened x hx rfl ho
          cases hwin : s.win x.window with
          | capturing d e n g => rw [hwin] at he; cases he; exact ⟨d, n, g, rfl⟩
          | free | idle | retiring => rw [hwin] at he; cases he
        group := fun w d e n g hwin => by
          have hg := hgroups w
          rw [hwin] at hg
          obtain ⟨ht, he⟩ := hg
          rw [tally, Prod.mk.injEq] at ht
          exact ⟨ht.1, ht.2, he⟩
        closed := hclosed
        batch := fun r hr => by
          obtain ⟨hm, ht, hst⟩ := hbatch r hr
          rw [tally, Prod.mk.injEq] at ht
          exact ⟨hm, ht.1, ht.2, hst⟩
        epochs := hepochs
        retiring := fun w d e n q hwin => by
          have hg := hgroups w
          rwa [hwin] at hg
        idle := fun w hw => by
          have hg := hgroups w
          cases hwin : s.win w with
          | free => rwa [hwin] at hg
          | idle d e => rwa [hwin] at hg
          | capturing d e n g => rw [hwin] at hw; rcases hw with hw | hw <;> cases hw
          | retiring d e n q => rw [hwin] at hw; rcases hw with hw | hw <;> cases hw
        beat := hbeat }

/-! ## Groups and batches share no slot -/

section
variable {s : State} (hs : s.SlotLaw)
include hs

theorem State.SlotLaw.place (w : WindowNo) : PlaceLaw s.slots s.queue w (s.win w) := (s.slotLaw_iff.mp hs).1 w

theorem State.SlotLaw.batchLaw {r : BatchRecord} (hr : r ∈ s.queue) : BatchLaw s.slots r := (s.slotLaw_iff.mp hs).2.1 r hr

theorem State.SlotLaw.inBatch_iff {r : BatchRecord} (hr : r ∈ s.queue) (x : Slot) :
    x.inBatch r.members = true ↔ r.epochOf x.window = some x.epoch := Slot.inBatch_iff (hs.batchLaw hr).members x

/-- R14, R24: an OPEN slot is in no batch. -/
theorem State.SlotLaw.not_inBatch_of_opened {x : Slot} (hx : x ∈ s.slots) (ho : x.status = .opened) {r : BatchRecord} (hr : r ∈ s.queue) :
    x.inBatch r.members = false := by
  obtain ⟨d, n, g, hwin⟩ := hs.opened x hx ho
  obtain ⟨-, -, he⟩ := hs.group _ _ _ _ _ hwin
  rw [Bool.eq_false_iff]
  exact fun hb => he ((mem_epochs _ _ _).mpr ⟨r, hr, (hs.inBatch_iff hr x).mp hb⟩)

/-- R24: a slot of a CAPTURING window is OPEN exactly when it is at the epoch of the open group. -/
theorem State.SlotLaw.openOf_iff {w : WindowNo} {d : WindowDef} {e : Epoch} {n : Nat} {g : OpenGroup}
    (hwin : s.win w = .capturing d e n g) {x : Slot} (hx : x ∈ s.slots) : Slot.openOf w x = true ↔ x.window = w ∧ x.epoch = e := by
  simp only [Slot.openOf, Bool.and_eq_true, decide_eq_true_eq]
  constructor
  · rintro ⟨ho, rfl⟩
    have he := (hs.place x.window).opened x hx rfl ho
    rw [hwin] at he
    cases he
    exact ⟨rfl, rfl⟩
  · rintro ⟨rfl, rfl⟩
    refine ⟨Classical.not_not.mp fun ho => ?_, rfl⟩
    obtain ⟨r, hr, hb⟩ := hs.closed x hx ho
    obtain ⟨-, -, he⟩ := hs.group _ _ _ _ _ hwin
    exact he ((mem_epochs _ _ _).mpr ⟨r, hr, (hs.inBatch_iff hr x).mp hb⟩)

/-- R14: two batches share no group. -/
theorem State.SlotLaw.epochOf_unique {w : WindowNo} {e : Epoch} {r q : BatchRecord} (hr : r ∈ s.queue) (hq : q ∈ s.queue)
    (hre : r.epochOf w = some e) (hqe : q.epochOf w = some e) : r = q := by
  have hnodup := hs.epochs w
  rw [queueGroups_epochs, List.Nodup, List.pairwise_filterMap] at hnodup
  by_contra hne
  have hsymm : Std.Symm fun a b : BatchRecord => ∀ x, a.epochOf w = some x → ∀ y, b.epochOf w = some y → x ≠ y :=
    ⟨fun _ _ h x hx y hy hxy => h y hy x hx hxy.symm⟩
  exact hnodup.forall hr hq hne e hre e hqe rfl

theorem State.SlotLaw.inBatch_unique {x : Slot} {r q : BatchRecord} (hr : r ∈ s.queue) (hq : q ∈ s.queue)
    (hxr : x.inBatch r.members = true) (hxq : x.inBatch q.members = true) : r = q :=
  hs.epochOf_unique hr hq ((hs.inBatch_iff hr x).mp hxr) ((hs.inBatch_iff hq x).mp hxq)

end

end Sys2Proof.Machine
end

section
/-! The slot law through every move but the three that change the commit queue. -/

namespace Sys2Proof.Machine

/-! ## Parts of the law carried over -/

section
variable {slots slots' : List Slot} {queue queue' : List BatchRecord} {w : WindowNo} {e : WindowEntry}

theorem PlaceLaw.of_slots (h : PlaceLaw slots queue w e) (hn : slots'.countP (fun x => x.window = w) = slots.countP fun x => x.window = w)
    (ho : ∀ x ∈ slots', x.window = w → x.status = .opened → ∃ y ∈ slots, y.window = w ∧ y.status = .opened ∧ y.epoch = x.epoch)
    (ht : tally (Slot.openOf w) slots' = tally (Slot.openOf w) slots) : PlaceLaw slots' queue w e where
  held := h.held.trans hn.symm
  opened x hx hw hx' := by
    obtain ⟨y, hy, hyw, hyo, hye⟩ := ho x hx hw hx'
    rw [h.opened y hy hyw hyo, hye]
  groups := by
    have hg := h.groups
    cases e with
    | capturing d e n g => exact ⟨hg.1.trans ht.symm, hg.2⟩
    | free | idle | retiring => exact hg

theorem PlaceLaw.of_queue (h : PlaceLaw slots queue w e) (hq : queueGroups queue' w = queueGroups queue w) :
    PlaceLaw slots queue' w e where
  held := h.held
  opened := h.opened
  groups := by
    have hg := h.groups
    cases e with
    | free | idle | capturing | retiring =>
      rw [WindowEntry.GroupsIn, hq]
      exact hg

/-- The entry's open group may change its flags. -/
theorem PlaceLaw.markGroup (h : PlaceLaw slots queue w e) (f : GroupFlags → GroupFlags) : PlaceLaw slots queue w (e.markGroup f) := by
  cases e with
  | capturing d e n g => exact ⟨h.held, h.opened, h.groups⟩
  | free | idle | retiring => exact h

variable {r : BatchRecord}

theorem BatchLaw.of_slots (h : BatchLaw slots r) (ht : tally (Slot.inBatch r.members) slots' = tally (Slot.inBatch r.members) slots)
    (hst : ∀ x ∈ slots', x.inBatch r.members = true → x.status = if r.isDraining then .draining else .queued) : BatchLaw slots' r :=
  ⟨h.members, h.totals.trans ht.symm, hst⟩

theorem BatchRecord.Alike.epochOf {q : BatchRecord} (h : r.Alike q) (w : WindowNo) : q.epochOf w = r.epochOf w := by
  rw [BatchRecord.epochOf, BatchRecord.epochOf, h.members]

theorem BatchLaw.alike (h : BatchLaw slots r) {q : BatchRecord} (hq : r.Alike q) : BatchLaw slots q := by
  obtain ⟨-, hm, hl, hb, hd⟩ := hq
  exact ⟨hm ▸ h.members, by rw [hl, hb, hm]; exact h.totals, by rw [hm, hd]; exact h.status⟩

/-- R57: a change of the head that keeps its number and its members keeps every window's groups. -/
theorem queueGroups_modifyHead {f : BatchRecord → BatchRecord} (hs : ∀ r, (f r).seq = r.seq) (hm : ∀ r, (f r).members = r.members) :
    queueGroups (queue.modifyHead f) w = queueGroups queue w := by
  cases queue with
  | nil => rfl
  | cons r rest => simp [queueGroups, List.filterMap_cons, hs, hm]

end

theorem Slot.Alike.inBatch {x y : Slot} (h : x.Alike y) (ms : List Member) : y.inBatch ms = x.inBatch ms := by
  simp only [Slot.inBatch, h.window, h.epoch]

theorem Slot.Alike.openOf {x y : Slot} (h : x.Alike y) (w : WindowNo) : Slot.openOf w y = Slot.openOf w x := by
  simp only [Slot.openOf, h.window, h.status]

section
variable {s t : State} (hs : s.SlotLaw)
include hs

/-! ## Blocks that the law does not speak of -/

theorem State.SlotLaw.of_eq (hw : ∀ w, t.win w = s.win w) (hsl : t.slots = s.slots) (hq : t.queue = s.queue)
    (hb : ∀ h ∈ t.hpi.held, h.addr % 4 = 0) : t.SlotLaw := by
  obtain ⟨hplace, hbatch, hclosed, hepochs, -⟩ := s.slotLaw_iff.mp hs
  rw [State.slotLaw_iff, hsl, hq]
  exact ⟨fun w => hw w ▸ hplace w, hbatch, hclosed, hepochs, hb⟩

/-! ## The slots changed in place -/

/-- A change of slots that keeps their keys, standing and valid bytes. -/
theorem State.SlotLaw.mapSlots {f : Slot → Slot} (hf : ∀ x : Slot, x.Alike (f x)) : (s.setSlots (s.slots.map f)).SlotLaw := by
  obtain ⟨hplace, hbatch, hclosed, hepochs, hbeat⟩ := s.slotLaw_iff.mp hs
  have htally {p : Slot → Bool} (hp : ∀ x, p (f x) = p x) : tally p (s.slots.map f) = tally p s.slots := by
    rw [tally_map fun x _ => (hf x).bytes]
    exact tally_congr fun x _ => hp x
  rw [State.slotLaw_iff]
  refine ⟨fun w => (hplace w).of_slots ?_ ?_ (htally fun x => (hf x).openOf w), fun r hr => (hbatch r hr).of_slots
    (htally fun x => (hf x).inBatch _) ?_, ?_, hepochs, hbeat⟩
  · rw [State.setSlots_slots, List.countP_map]
    exact List.countP_congr fun x _ => by simp only [Function.comp_apply, (hf x).window]
  · intro y hy hw ho
    obtain ⟨x, hx, rfl⟩ := List.mem_map.mp hy
    exact ⟨x, hx, (hf x).window ▸ hw, (hf x).status ▸ ho, (hf x).epoch.symm⟩
  · intro y hy hb
    obtain ⟨x, hx, rfl⟩ := List.mem_map.mp hy
    rw [(hf x).inBatch] at hb
    rw [(hf x).status]
    exact (hbatch r hr).status x hx hb
  · intro y hy ho
    obtain ⟨x, hx, rfl⟩ := List.mem_map.mp hy
    rw [(hf x).status] at ho
    obtain ⟨r, hr, hb⟩ := hclosed x hx ho
    exact ⟨r, hr, ((hf x).inBatch _).trans hb⟩

/-- R14: no batch behind the head has a slot of the head. -/
theorem State.SlotLaw.not_inBatch_of_head {r : BatchRecord} {rest : List BatchRecord} (hq : s.queue = r :: rest) {x : Slot}
    (hx : x.inBatch r.members = true) {q : BatchRecord} (hrest : q ∈ rest) : x.inBatch q.members = false := by
  have hr : r ∈ s.queue := by rw [hq]; exact List.mem_cons_self
  have hnodup := hs.epochs x.window
  rw [queueGroups_epochs, hq, List.filterMap_cons_some (f := fun q : BatchRecord => q.epochOf x.window) ((hs.inBatch_iff hr x).mp hx),
    List.nodup_cons, List.mem_filterMap] at hnodup
  rw [Bool.eq_false_iff]
  exact fun hb => hnodup.1 ⟨q, hrest, (hs.inBatch_iff (by rw [hq]; exact List.mem_cons_of_mem r hrest) x).mp hb⟩

/-- R85: the slot once the head has been reserved. -/
def Slot.reserved (ms : List Member) (x : Slot) : Slot := if x.inBatch ms then { x with status := .draining } else x

omit hs in
theorem Slot.reserved_key (ms : List Member) (x : Slot) :
    (x.reserved ms).window = x.window ∧ (x.reserved ms).epoch = x.epoch ∧ (x.reserved ms).cells = x.cells := by
  unfold Slot.reserved
  split <;> exact ⟨rfl, rfl, rfl⟩

omit hs in
theorem Slot.reserved_inBatch (ms ns : List Member) (x : Slot) : (x.reserved ms).inBatch ns = x.inBatch ns := by
  obtain ⟨hw, he, -⟩ := Slot.reserved_key ms x
  simp only [Slot.inBatch, hw, he]

/-- R85: the slots of the head become DRAINING with it. -/
theorem State.SlotLaw.reserveHead {r : BatchRecord} {rest : List BatchRecord} (hq : s.queue = r :: rest) :
    (s.reserveHead r).SlotLaw := by
  obtain ⟨hplace, hbatch, hclosed, hepochs, hbeat⟩ := s.slotLaw_iff.mp hs
  have hr : r ∈ s.queue := by rw [hq]; exact List.mem_cons_self
  obtain ⟨f, hqueue⟩ : ∃ f, (s.reserveHead r).queue = { r with state := .draining f } :: rest := by
    simp [State.reserveHead, State.changeHead_eq, hq]
  have hslots : (s.reserveHead r).slots = s.slots.map (Slot.reserved r.members) := by
    simp [State.reserveHead, changeSlots, Slot.reserved]
  have hgroups (w : WindowNo) : queueGroups (s.reserveHead r).queue w = queueGroups s.queue w := by
    rw [hqueue, hq]
    rfl
  have htally {p : Slot → Bool} (hp : ∀ x ∈ s.slots, p (x.reserved r.members) = p x) :
      tally p (s.slots.map (Slot.reserved r.members)) = tally p s.slots := by
    rw [tally_map fun x _ => by rw [(x.reserved_key r.members).2.2]]
    exact tally_congr hp
  have hbeat' : (s.reserveHead r).hpi = s.hpi := by simp [State.reserveHead, State.changeHead_eq]
  have hwin (w : WindowNo) : (s.reserveHead r).win w = s.win w := by simp [State.reserveHead, State.changeHead_eq]
  rw [State.slotLaw_iff, hslots, hbeat']
  simp only [hgroups, hwin]
  refine ⟨fun w => PlaceLaw.of_queue ((hplace w).of_slots ?_ ?_ (htally ?_)) (hgroups w), ?_, ?_, hepochs, hbeat⟩
  · rw [List.countP_map]
    exact List.countP_congr fun x _ => by simp only [Function.comp_apply, (x.reserved_key r.members).1]
  · intro y hy hw ho
    obtain ⟨x, hx, rfl⟩ := List.mem_map.mp hy
    obtain ⟨hxw, hxe, -⟩ := x.reserved_key r.members
    refine ⟨x, hx, hxw ▸ hw, ?_, hxe.symm⟩
    unfold Slot.reserved at ho
    split at ho
    · cases ho
    · exact ho
  · intro x hx
    unfold Slot.reserved
    split
    next hb =>
      have hno : x.status ≠ .opened := fun ho => Bool.false_ne_true ((hs.not_inBatch_of_opened hx ho hr).symm.trans hb)
      simp [Slot.openOf, hno]
    next => rfl
  · rw [hqueue]
    intro q hq'
    rcases List.mem_cons.mp hq' with rfl | hrest
    · refine ⟨(hbatch r hr).members, (hbatch r hr).totals.trans (htally fun x _ => x.reserved_inBatch _ _).symm, ?_⟩
      intro y hy hb
      obtain ⟨x, hx, rfl⟩ := List.mem_map.mp hy
      rw [x.reserved_inBatch] at hb
      simp [Slot.reserved, hb, BatchRecord.isDraining, BatchRecord.drainFields]
    · have hq'' : q ∈ s.queue := by rw [hq]; exact List.mem_cons_of_mem r hrest
      refine (hbatch q hq'').of_slots (htally fun x _ => x.reserved_inBatch _ _) fun y hy hb => ?_
      obtain ⟨x, hx, rfl⟩ := List.mem_map.mp hy
      rw [x.reserved_inBatch] at hb
      have hnot : x.inBatch r.members = false := by
        rw [Bool.eq_false_iff]
        exact fun h => Bool.false_ne_true ((hs.not_inBatch_of_head hq h hrest).symm.trans hb)
      rw [Slot.reserved, hnot, if_neg Bool.false_ne_true]
      exact (hbatch q hq'').status x hx hb
  · intro y hy ho
    obtain ⟨x, hx, rfl⟩ := List.mem_map.mp hy
    simp only [x.reserved_inBatch]
    rw [hqueue]
    by_cases hb : x.inBatch r.members = true
    · exact ⟨_, List.mem_cons_self, hb⟩
    · rw [Slot.reserved, if_neg hb] at ho
      obtain ⟨q, hq', hqb⟩ := hclosed x hx ho
      rw [hq] at hq'
      rcases List.mem_cons.mp hq' with rfl | hrest
      · exact absurd hqb hb
      · exact ⟨q, List.mem_cons_of_mem _ hrest, hqb⟩

/-- R59, R87: the head changed in what the law does not speak of. -/
theorem State.SlotLaw.changeHead {f : BatchRecord → BatchRecord} (hf : ∀ r : BatchRecord, r.Alike (f r)) : (s.changeHead f).SlotLaw := by
  obtain ⟨hplace, hbatch, hclosed, hepochs, hbeat⟩ := s.slotLaw_iff.mp hs
  have hgroups (w : WindowNo) : queueGroups (s.queue.modifyHead f) w = queueGroups s.queue w :=
    queueGroups_modifyHead (fun r => (hf r).seq) fun r => (hf r).members
  rw [State.changeHead_eq, State.slotLaw_iff]
  refine ⟨fun w => (hplace w).of_queue (hgroups w), fun q hq => ?_, fun x hx ho => ?_, fun w => ?_, hbeat⟩
  · rw [State.setQueue_queue] at hq
    cases hqueue : s.queue with
    | nil => rw [hqueue] at hq; cases hq
    | cons r rest =>
      rw [hqueue] at hq hbatch
      rcases List.mem_cons.mp hq with rfl | hrest
      · exact (hbatch r List.mem_cons_self).alike (hf r)
      · exact hbatch q (List.mem_cons_of_mem r hrest)
  · obtain ⟨q, hq, hb⟩ := hclosed x hx ho
    rw [State.setQueue_queue]
    cases hqueue : s.queue with
    | nil => rw [hqueue] at hq; cases hq
    | cons r rest =>
      rw [hqueue] at hq
      rcases List.mem_cons.mp hq with rfl | hrest
      · exact ⟨f q, List.mem_cons_self, by rw [(hf q).members]; exact hb⟩
      · exact ⟨q, List.mem_cons_of_mem _ hrest, hb⟩
  · rw [State.setQueue_queue, hgroups]
    exact hepochs w

/-! ## One window's entry -/

/-- The table with one entry replaced by one that the law allows there. -/
theorem State.SlotLaw.setWin {w : WindowNo} {e : WindowEntry} (he : PlaceLaw s.slots s.queue w e) : (s.setWin w e).SlotLaw := by
  obtain ⟨hplace, hbatch, hclosed, hepochs, hbeat⟩ := s.slotLaw_iff.mp hs
  rw [State.slotLaw_iff]
  refine ⟨fun v => ?_, hbatch, hclosed, hepochs, hbeat⟩
  rw [State.setWin_win]
  split
  next hv => exact hv ▸ he
  next => exact hplace v

/-- R13: a window with no slot and no group may stand as any entry that holds none. -/
theorem State.SlotLaw.setWin_of_empty {w : WindowNo} (hold : (s.win w).isIdle = true ∨ (s.win w).isFree = true) {e : WindowEntry}
    (he : e.slotsHeld = 0) (hg : (e.isIdle = true ∨ e.isFree = true) ∨ ∃ d x n, e = .capturing d x n newGroup) :
    (s.setWin w e).SlotLaw := by
  have hnone : s.slots.countP (fun x => x.window = w) = 0 := by
    rw [← hs.held w]
    cases hwin : s.win w with
    | free | idle => rfl
    | capturing | retiring => rw [hwin] at hold; rcases hold with h | h <;> cases h
  have hslot : ∀ x ∈ s.slots, x.window ≠ w := by simpa using hnone
  have hgroups := hs.idle w hold
  refine hs.setWin ⟨he.trans hnone.symm, fun x hx hw => absurd hw (hslot x hx), ?_⟩
  rcases hg with hidle | ⟨d, x, n, rfl⟩
  · cases e with
    | free | idle => exact hgroups
    | capturing | retiring => rcases hidle with h | h <;> cases h
  · refine ⟨?_, by rw [hgroups]; exact List.not_mem_nil⟩
    rw [tally_eq_zero fun x hx => by simp [Slot.openOf, hslot x hx]]
    rfl

end

end Sys2Proof.Machine
end

section
/-! The slot law where slots are staged, discarded, closed into a batch, and freed with one. -/

namespace Sys2Proof.Machine

/-! ## The bytes of a merge (R30, R31) -/

/-- R30: a merge adds the bytes it newly makes valid. -/
theorem validCount_mergeCells (cs : Cells) (off : Nat) (l : Lanes) :
    validCount (mergeCells cs off l) = validCount cs + newlyValid cs off l := by
  have hcount (xs : List (Fin 32)) : xs.countP (fun i => (mergeCells cs off l)[i].isSome) =
      xs.countP (fun i => cs[i].isSome) + xs.countP fun i => (laneAt l off i.val).isSome && cs[i].isNone := by
    induction xs with
    | nil => rfl
    | cons i xs ih =>
      have hi : (mergeCells cs off l)[i] = (laneAt l off i.val).or cs[i] := by
        simp only [mergeCells, Fin.getElem_fin, Vector.getElem_ofFn]
        cases laneAt l off i.val <;> rfl
      rw [List.countP_cons, List.countP_cons, List.countP_cons, ih, hi]
      cases laneAt l off i.val <;> cases cs[i] <;> simp <;> omega
  rw [validCount_eq, validCount_eq, newlyValid, hcount]

/-- R31: a new slot holds as many bytes as its beat has strobes, for a beat within a line. -/
theorem newlyValid_emptyCells (off : Nat) (wd : Word) (be : BitVec 4) (h4 : off % 4 = 0) (h32 : off < 32) :
    newlyValid emptyCells off (beatLanes wd be) = strobeCount be := by
  have hall : ∀ k : Fin 8, ∀ be : BitVec 4,
      ((List.finRange 32).countP fun i => strobedAt be (4 * k.val) i.val) = (List.range 4).countP be.getLsbD := by
    decide
  obtain ⟨k, rfl⟩ : ∃ k : Fin 8, off = 4 * k.val := ⟨⟨off / 4, by omega⟩, by dsimp only; omega⟩
  rw [newlyValid_beatLanes, strobeCount, ← hall k be]
  simp [emptyCells]

theorem validCount_emptyCells : validCount emptyCells = 0 := by decide

/-! ## Slots taken out of the store -/

theorem tally_filter_of {p q : Slot → Bool} {slots : List Slot} (h : ∀ x ∈ slots, p x = true → q x = true) :
    tally p (slots.filter q) = tally p slots := by
  rw [tally_filter]
  refine tally_congr fun x hx => ?_
  cases hp : p x
  · rfl
  · exact h x hx hp

theorem countP_window_filter (slots : List Slot) (p : Slot → Bool) (w : WindowNo) :
    (slots.filter fun x => !p x).countP (fun x => x.window = w) =
      slots.countP (fun x => x.window = w) - slots.countP fun x => p x && x.window = w := by
  have h := List.countP_eq_countP_filter_add slots (fun x => decide (x.window = w)) p
  rw [List.countP_filter] at h
  have hcomm : slots.countP (fun x => decide (x.window = w) && p x) = slots.countP fun x => p x && decide (x.window = w) :=
    List.countP_congr fun x _ => by rw [Bool.and_comm]
  omega

section
variable {s t : State} (hs : s.SlotLaw)
include hs

/-! ## Staging (R30, R31) -/

/-- R31: a new slot of a CAPTURING window is in no batch. -/
theorem State.SlotLaw.not_inBatch_of_key {w : WindowNo} {d : WindowDef} {e : Epoch} {n : Nat} {g : OpenGroup}
    (hwin : s.win w = .capturing d e n g) {x : Slot} (hw : x.window = w) (he : x.epoch = e) {r : BatchRecord} (hr : r ∈ s.queue) :
    x.inBatch r.members = false := by
  obtain ⟨-, -, hfresh⟩ := hs.group _ _ _ _ _ hwin
  rw [Bool.eq_false_iff]
  exact fun hb => hfresh ((mem_epochs _ _ _).mpr ⟨r, hr, by rw [← hw, ← he]; exact (hs.inBatch_iff hr x).mp hb⟩)

/-- R30: a beat merged into its slot. -/
theorem State.SlotLaw.merge (hwf : s.StoreWf) {w : WindowNo} {d : WindowDef} {e : Epoch} {n : Nat} {g : OpenGroup}
    (hwin : s.win w = .capturing d e n g) {line : Nat} {x : Slot} (hx : findSlot s.slots w e line = some x) (off : Nat) (l : Lanes) :
    ((s.setSlots (changeSlots (·.hasKey w e line) (fun y => { y with cells := mergeCells y.cells off l }) s.slots)).setWin w
      (.capturing d e n { g with bytes := g.bytes + newlyValid x.cells off l })).SlotLaw := by
  obtain ⟨hplace, hbatch, hclosed, hepochs, hbeat⟩ := s.slotLaw_iff.mp hs
  obtain ⟨hmem, hkey⟩ := findSlot_some _ _ _ _ _ hx
  obtain ⟨⟨hxw, hxe⟩, hxl⟩ : (x.window = w ∧ x.epoch = e) ∧ x.line = line := by simpa [Slot.hasKey] using hkey
  have hopen : Slot.openOf w x = true := (hs.openOf_iff hwin hmem).mpr ⟨hxw, hxe⟩
  generalize hslots : changeSlots (·.hasKey w e line) (fun y => { y with cells := mergeCells y.cells off l }) s.slots = slots'
  have hunique : ∀ y ∈ s.slots, y.hasKey w e line = true ↔ y = x := by
    refine fun y hy => ⟨fun hk => slotsOrdered_unique s.slots hwf.1 y x hy hmem ?_, fun h => h ▸ hkey⟩
    simp only [Slot.hasKey, Bool.and_eq_true, decide_eq_true_eq] at hk ⊢
    exact ⟨⟨hxw.trans hk.1.1.symm, hxe.trans hk.1.2.symm⟩, hxl.trans hk.2.symm⟩
  have htally {p : Slot → Bool} (hp : ∀ c, p { x with cells := c } = p x) :
      tally p slots' = tally p s.slots + if p x then (0, newlyValid x.cells off l) else 0 := by
    rw [← hslots]
    exact tally_changeSlots hwf.1 hmem hunique (hp _) (validCount_mergeCells _ _ _)
  have hback : ∀ y ∈ slots', ∃ z ∈ s.slots, y.window = z.window ∧ y.epoch = z.epoch ∧ y.status = z.status := by
    intro y hy
    rw [← hslots, changeSlots] at hy
    obtain ⟨z, hz, rfl⟩ := List.mem_map.mp hy
    refine ⟨z, hz, ?_⟩
    split <;> exact ⟨rfl, rfl, rfl⟩
  have hinBatch {y z : Slot} (hyw : y.window = z.window) (hye : y.epoch = z.epoch) (ms : List Member) : y.inBatch ms = z.inBatch ms := by
    simp only [Slot.inBatch, hyw, hye]
  have hcount (v : WindowNo) : slots'.countP (fun y => y.window = v) = s.slots.countP fun y => y.window = v := by
    have h := congrArg Prod.fst (htally (p := fun y => decide (y.window = v)) fun _ => rfl)
    have hzero (b : Bool) (k : Nat) : (if b = true then (0, k) else 0 : Nat × Nat).1 = 0 := by cases b <;> rfl
    rw [Prod.fst_add, hzero] at h
    exact h
  rw [State.slotLaw_iff]
  refine ⟨fun v => ?_, fun r hr => (hbatch r hr).of_slots ?_ ?_, ?_, hepochs, hbeat⟩
  · show PlaceLaw slots' s.queue v _
    rw [State.setWin_win]
    split
    next hv =>
      subst hv
      obtain ⟨hheld, hopened, hgroups⟩ := hplace v
      rw [hwin] at hheld hopened hgroups
      refine ⟨hheld.trans (hcount v).symm, fun y hy hyw hyo => ?_, ?_, hgroups.2⟩
      · obtain ⟨z, hz, hzw, hze, hzs⟩ := hback y hy
        exact (hopened z hz (hzw ▸ hyw) (hzs ▸ hyo)).trans (by rw [hze])
      · rw [htally fun _ => rfl, if_pos hopen, ← hgroups.1]
        rfl
    next hv =>
      refine (hplace v).of_slots (hcount v) (fun y hy hyw hyo => ?_) ?_
      · obtain ⟨z, hz, hzw, hze, hzs⟩ := hback y hy
        exact ⟨z, hz, hzw ▸ hyw, hzs ▸ hyo, hze.symm⟩
      · have hclosed : Slot.openOf v x = false := by simp [Slot.openOf, hxw, Ne.symm hv]
        rw [htally fun _ => rfl, hclosed, if_neg Bool.false_ne_true, add_zero]
  · show tally _ slots' = _
    rw [htally fun _ => rfl, hs.not_inBatch_of_key hwin hxw hxe hr, if_neg Bool.false_ne_true, add_zero]
  · intro y hy hb
    obtain ⟨z, hz, hzw, hze, hzs⟩ := hback y hy
    rw [hzs]
    exact (hbatch r hr).status z hz (hinBatch hzw hze _ ▸ hb)
  · intro y hy ho
    obtain ⟨z, hz, hzw, hze, hzs⟩ := hback y hy
    obtain ⟨r, hr, hb⟩ := hclosed z hz (hzs ▸ ho)
    exact ⟨r, hr, (hinBatch hzw hze _).trans hb⟩

/-- R31: a beat given a new slot. -/
theorem State.SlotLaw.allocate {w : WindowNo} {d : WindowDef} {e : Epoch} {n : Nat} {g : OpenGroup}
    (hwin : s.win w = .capturing d e n g) {x : Slot} (hxw : x.window = w) (hxe : x.epoch = e) (hxs : x.status = .opened) :
    ((s.setSlots (insertSlot x s.slots)).setWin w
      (.capturing d e (n + 1) { g with lines := g.lines + 1, bytes := g.bytes + validCount x.cells })).SlotLaw := by
  obtain ⟨hplace, hbatch, hclosed, hepochs, hbeat⟩ := s.slotLaw_iff.mp hs
  have htally (p : Slot → Bool) : tally p (insertSlot x s.slots) = (if p x then (1, validCount x.cells) else 0) + tally p s.slots := by
    rw [tally_perm p (insertSlot_perm x s.slots), tally_cons]
  have hcount (v : WindowNo) : (insertSlot x s.slots).countP (fun y => y.window = v) =
      (s.slots.countP fun y => y.window = v) + if w = v then 1 else 0 := by
    rw [(insertSlot_perm x s.slots).countP_eq, List.countP_cons]
    simp only [hxw, decide_eq_true_eq]
  have hnot {r : BatchRecord} (hr : r ∈ s.queue) : x.inBatch r.members = false := hs.not_inBatch_of_key hwin hxw hxe hr
  rw [State.slotLaw_iff]
  refine ⟨fun v => ?_, fun r hr => (hbatch r hr).of_slots ?_ fun y hy hb => ?_, fun y hy ho => ?_, hepochs, hbeat⟩
  · show PlaceLaw (insertSlot x s.slots) s.queue v _
    rw [State.setWin_win]
    split
    next hv =>
      subst hv
      obtain ⟨hheld, hopened, hgroups⟩ := hplace v
      rw [hwin] at hheld hopened hgroups
      refine ⟨?_, fun y hy hyw hyo => ?_, ?_, hgroups.2⟩
      · rw [hcount, if_pos rfl]
        exact congrArg (· + 1) hheld
      · rcases (mem_insertSlot _ _ _).mp hy with rfl | hy
        · exact congrArg some hxe.symm
        · exact hopened y hy hyw hyo
      · have hopen : Slot.openOf v x = true := by simp [Slot.openOf, hxs, hxw]
        rw [htally, if_pos hopen, ← hgroups.1]
        exact Prod.ext (Nat.add_comm _ _) (Nat.add_comm _ _)
    next hv =>
      refine (hplace v).of_slots ?_ (fun y hy hyw hyo => ?_) ?_
      · rw [hcount, if_neg (Ne.symm hv), Nat.add_zero]
      · rcases (mem_insertSlot _ _ _).mp hy with rfl | hy
        · exact absurd (hyw.symm.trans hxw) hv
        · exact ⟨y, hy, hyw, hyo, rfl⟩
      · have hclosed : Slot.openOf v x = false := by simp [Slot.openOf, hxw, Ne.symm hv]
        rw [htally, hclosed, if_neg Bool.false_ne_true, zero_add]
  · show tally _ (insertSlot x s.slots) = _
    rw [htally, hnot hr, if_neg Bool.false_ne_true, zero_add]
  · rcases (mem_insertSlot _ _ _).mp hy with rfl | hy
    · exact absurd ((hnot hr).symm.trans hb) Bool.false_ne_true
    · exact (hbatch r hr).status y hy hb
  · rcases (mem_insertSlot _ _ _).mp hy with rfl | hy
    · exact absurd hxs ho
    · exact hclosed y hy ho

/-- R30, R31: a word staged. -/
theorem State.SlotLaw.stage (hwf : s.StoreWf) {w : WindowNo} {a : Nat} (ha : a % 4 = 0) {wd : Word} {be : BitVec 4}
    (h : s.stage w a wd be = some t) : t.SlotLaw := by
  obtain ⟨d, e, n, g, hwin, ⟨x, hx, rfl⟩ | ⟨-, -, -, rfl⟩⟩ := s.stage_cases t w a wd be h
  · exact hs.merge hwf hwin hx _ _
  · have hbytes : validCount (mergeCells emptyCells (offsetOf a) (beatLanes wd be)) = strobeCount be := by
      rw [validCount_mergeCells, validCount_emptyCells, zero_add,
        newlyValid_emptyCells _ _ _ (by unfold offsetOf; omega) (by unfold offsetOf; omega)]
    rw [← hbytes]
    exact hs.allocate hwin (x := { status := .opened, window := w, epoch := e, line := lineOf a, cells := _, written := false }) rfl rfl rfl

/-! ## WIN_ABORT (R63) -/

theorem State.SlotLaw.abort (hlen : s.queue.length ≤ 8) {w : WindowNo} (hw : (s.win w).isCapturing = true) : (s.abortGroup w).SlotLaw := by
  obtain ⟨hplace, hbatch, hclosed, hepochs, hbeat⟩ := s.slotLaw_iff.mp hs
  obtain ⟨d, e, n, g, hwin, habort⟩ := State.abortGroup_of_isCapturing hw
  rw [habort, State.slotLaw_iff]
  have hopen {x : Slot} : Slot.openOf w x = true ↔ x.status = .opened ∧ x.window = w := by simp [Slot.openOf]
  have hcount (v : WindowNo) : (s.slots.filter fun x => !Slot.openOf w x).countP (fun x => x.window = v) =
      s.slots.countP (fun x => x.window = v) - if v = w then s.freedCount (Slot.openOf w) else 0 := by
    rw [countP_window_filter, countP_openOf_window]
    rfl
  refine ⟨fun v => ?_, fun r hr => (hbatch r hr).of_slots (tally_filter_of fun x hx hb => ?_)
    fun x hx => (hbatch r hr).status x (List.mem_of_mem_filter hx), fun x hx => hclosed x (List.mem_of_mem_filter hx), hepochs, hbeat⟩
  · show PlaceLaw (s.slots.filter fun x => !Slot.openOf w x) s.queue v _
    rw [State.setWin_win]
    split
    next hv =>
      subst hv
      refine ⟨?_, fun x hx hxw hxo => ?_, ?_, s.nextEpoch_fresh v e (by omega)⟩
      · rw [hcount, if_pos rfl, ← (hplace v).held, hwin]
        rfl
      · have hno := (List.mem_filter.mp hx).2
        rw [hopen.mpr ⟨hxo, hxw⟩] at hno
        cases hno
      · rw [tally_eq_zero fun x hx => by simpa using (List.mem_filter.mp hx).2]
        rfl
    next hv =>
      refine (hplace v).of_slots (by rw [hcount, if_neg hv, Nat.sub_zero]) (fun x hx hxw hxo =>
        ⟨x, List.mem_of_mem_filter hx, hxw, hxo, rfl⟩) (tally_filter_of fun x hx hxv => ?_)
      simp only [Slot.openOf, Bool.and_eq_true, decide_eq_true_eq] at hxv
      simp [Slot.openOf, hxv.2, hv]
  · rw [Bool.not_eq_true']
    rw [Bool.eq_false_iff]
    exact fun ho => Bool.false_ne_true ((hs.not_inBatch_of_opened hx (hopen.mp ho).1 hr).symm.trans hb)

end

end Sys2Proof.Machine
end

section
/-! The slot law where the commit queue changes: a CLOSE, a CANCEL and a completion; and the step lemma. -/

namespace Sys2Proof.Machine

/-! ## CLOSE (R50, R53) -/

theorem maskWindows_pairwise (mask : BitVec 16) : (maskWindows mask).Pairwise (· < ·) :=
  List.Pairwise.filter _ (by decide : allWindows.Pairwise (· < ·))

/-- R50: the members of a batch are the open groups of its windows. -/
theorem State.members_closeRecord (s : State) (retire : Bool) (ws : List WindowNo) :
    (s.closeRecord retire ws).members = ws.filterMap fun w => (s.win w).openEpoch.map fun e => { window := w, epoch := e } := by
  rw [closeRecord, closingGroups, List.map_filterMap]
  refine List.filterMap_congr fun w _ => ?_
  cases h : (s.win w).openGroup <;> simp [WindowEntry.openEpoch, h]

theorem BatchRecord.epochOf_closeRecord (s : State) (retire : Bool) (ws : List WindowNo) (w : WindowNo) :
    (s.closeRecord retire ws).epochOf w = if w ∈ ws then (s.win w).openEpoch else none := by
  rw [BatchRecord.epochOf, State.members_closeRecord]
  induction ws with
  | nil => rfl
  | cons v ws ih =>
    rw [List.filterMap_cons]
    cases hv : (s.win v).openEpoch with
    | none =>
      simp only [Option.map_none, ih, List.mem_cons]
      by_cases hw : w = v
      · subst hw
        simp [hv]
      · simp [hw]
    | some e =>
      simp only [Option.map_some, List.find?_cons, List.mem_cons]
      by_cases hw : v = w
      · subst hw
        simp [hv]
      · simp only [hw, Ne.symm hw, decide_false, false_or, ih]

theorem State.closeRecord_members (s : State) (retire : Bool) {ws : List WindowNo} (hws : ws.Pairwise (· < ·)) :
    (s.closeRecord retire ws).members.Pairwise fun m n => m.window < n.window := by
  rw [members_closeRecord, List.pairwise_filterMap]
  refine hws.imp fun {v w} hvw m hm n hn => ?_
  obtain ⟨-, -, rfl⟩ := Option.map_eq_some_iff.mp hm
  obtain ⟨-, -, rfl⟩ := Option.map_eq_some_iff.mp hn
  exact hvw

/-- The OPEN slots of the windows. -/
def Slot.closing (ws : List WindowNo) (x : Slot) : Bool := x.status = .opened && ws.contains x.window

section
variable {s : State} (hs : s.SlotLaw)
include hs

/-- R32: the counts of the open groups that a CLOSE gathers are those of their slots. -/
theorem State.SlotLaw.closingGroups_tally {ws : List WindowNo} (hnodup : ws.Nodup) (hws : ∀ w ∈ ws, (s.win w).isCapturing = true) :
    (groupLines (s.closingGroups ws), groupBytes (s.closingGroups ws)) = tally (Slot.closing ws) s.slots := by
  induction ws with
  | nil => exact (tally_eq_zero fun x _ => by simp [Slot.closing]).symm
  | cons w ws ih =>
    obtain ⟨hw, hnodup⟩ := List.nodup_cons.mp hnodup
    have ih := ih hnodup fun v hv => hws v (List.mem_cons_of_mem w hv)
    have hcapturing := hws w List.mem_cons_self
    cases hwin : s.win w with
    | free | idle | retiring => rw [hwin] at hcapturing; cases hcapturing
    | capturing d e n g =>
      obtain ⟨hl, hb, -⟩ := hs.group w d e n g hwin
      have hgroups : s.closingGroups (w :: ws) = ({ window := w, epoch := e }, g) :: s.closingGroups ws := by
        simp [State.closingGroups, hwin, WindowEntry.openGroup]
      have hsplit : tally (Slot.closing (w :: ws)) s.slots = tally (Slot.openOf w) s.slots + tally (Slot.closing ws) s.slots := by
        rw [← tally_or]
        · refine tally_congr fun x _ => ?_
          by_cases hx : x.status = .opened <;> simp [Slot.closing, Slot.openOf, hx]
        · intro x _ hx
          simp only [Slot.openOf, Bool.and_eq_true, decide_eq_true_eq] at hx
          simp [Slot.closing, hx.2, hw]
      rw [hsplit, ← ih, hgroups, tally, ← hl, ← hb]
      simp [groupLines, groupBytes]

/-- R50: the slots of the batch a CLOSE forms are the OPEN slots of its windows. -/
theorem State.SlotLaw.inBatch_closeRecord (retire : Bool) {ws : List WindowNo} (hpairs : ws.Pairwise (· < ·))
    (hws : ∀ w ∈ ws, (s.win w).isCapturing = true) {x : Slot} (hx : x ∈ s.slots) :
    x.inBatch (s.closeRecord retire ws).members = x.closing ws := by
  rw [Bool.eq_iff_iff, Slot.inBatch_iff (s.closeRecord_members retire hpairs), BatchRecord.epochOf_closeRecord, Slot.closing,
    Bool.and_eq_true, decide_eq_true_eq, List.contains_iff_mem]
  by_cases hmem : x.window ∈ ws
  · rw [if_pos hmem]
    have hcapturing := hws _ hmem
    cases hwin : s.win x.window with
    | free | idle | retiring => rw [hwin] at hcapturing; cases hcapturing
    | capturing d e n g =>
      have hopen := hs.openOf_iff hwin hx
      simp only [Slot.openOf, Bool.and_eq_true, decide_eq_true_eq, and_true, true_and] at hopen
      simp only [WindowEntry.openEpoch, WindowEntry.openGroup, Option.map_some, Option.some.injEq, hopen, hmem, and_true]
      exact eq_comm
  · rw [if_neg hmem]
    simp [hmem]

end

/-- R53.2: the slot once its group has been closed. -/
def Slot.closed (ws : List WindowNo) (x : Slot) : Slot := if x.closing ws then { x with status := .queued } else x

theorem Slot.closed_key (ws : List WindowNo) (x : Slot) :
    (x.closed ws).window = x.window ∧ (x.closed ws).epoch = x.epoch ∧ (x.closed ws).cells = x.cells := by
  unfold Slot.closed
  split <;> exact ⟨rfl, rfl, rfl⟩

theorem Slot.closed_inBatch (ws : List WindowNo) (ms : List Member) (x : Slot) : (x.closed ws).inBatch ms = x.inBatch ms := by
  obtain ⟨hw, he, -⟩ := x.closed_key ws
  simp only [Slot.inBatch, hw, he]

/-- A slot that stays OPEN is of another window. -/
theorem Slot.closed_opened {ws : List WindowNo} {x : Slot} (h : (x.closed ws).status = .opened) :
    x.status = .opened ∧ x.window ∉ ws ∧ x.closed ws = x := by
  unfold Slot.closed at h ⊢
  split at h
  next => cases h
  next hno =>
    refine ⟨h, fun hmem => hno ?_, if_neg hno⟩
    simp [Slot.closing, h, hmem]

section
variable {s : State} (hs : s.SlotLaw)
include hs

/-- R50, R53: a CLOSE moves the OPEN slots of its windows into the batch it forms. -/
theorem State.SlotLaw.closeBatch (hlen : s.queue.length < 8) (retire : Bool) {ws : List WindowNo} (hpairs : ws.Pairwise (· < ·))
    (hws : ∀ w ∈ ws, (s.win w).isCapturing = true) : (s.closeBatch retire ws).SlotLaw := by
  obtain ⟨hplace, hbatch, hclosed, hepochs, hbeat⟩ := s.slotLaw_iff.mp hs
  have hqueue : (s.closeBatch retire ws).queue = s.queue ++ [s.closeRecord retire ws] := rfl
  have hslots : (s.closeBatch retire ws).slots = s.slots.map (Slot.closed ws) := rfl
  have hbeat' : (s.closeBatch retire ws).hpi = s.hpi := rfl
  obtain ⟨next, hnext, hwindow⟩ : ∃ next : WindowNo → Epoch → Epoch,
      (∀ w e, next w e ∉ (queueGroups (s.queue ++ [s.closeRecord retire ws]) w).map Prod.snd) ∧
      ∀ w, (s.closeBatch retire ws).win w = if ws.contains w then closeWindow retire s.nextSeq (next w) (s.win w) else s.win w := by
    refine ⟨(s.setQueue (s.queue ++ [s.closeRecord retire ws])).nextEpoch, fun w e => State.nextEpoch_fresh _ w e ?_, fun w => ?_⟩
    · simp only [State.setQueue_queue, List.length_append, List.length_singleton]
      omega
    · rw [State.closeBatch, State.mapWindows_win]
      rfl
  have hnone {w : WindowNo} (hw : w ∉ ws) : queueGroups [s.closeRecord retire ws] w = [] := by
    rw [queueGroups_eq, List.filterMap_cons, BatchRecord.epochOf_closeRecord, if_neg hw]
    rfl
  have hone {w : WindowNo} (hw : w ∈ ws) {d : WindowDef} {e : Epoch} {n : Nat} {g : OpenGroup} (hwin : s.win w = .capturing d e n g) :
      queueGroups [s.closeRecord retire ws] w = [(s.nextSeq, e)] := by
    rw [queueGroups_eq, List.filterMap_cons, BatchRecord.epochOf_closeRecord, if_pos hw, hwin]
    rfl
  have hcapturing {w : WindowNo} (hw : w ∈ ws) : ∃ d e n g, s.win w = .capturing d e n g := by
    have h := hws w hw
    cases hwin : s.win w with
    | free | idle | retiring => rw [hwin] at h; cases h
    | capturing d e n g => exact ⟨d, e, n, g, rfl⟩
  have htally {p : Slot → Bool} (hp : ∀ x ∈ s.slots, p (x.closed ws) = p x) : tally p (s.slots.map (Slot.closed ws)) = tally p s.slots := by
    rw [tally_map fun x _ => by rw [(x.closed_key ws).2.2]]
    exact tally_congr hp
  have hcount (w : WindowNo) : (s.slots.map (Slot.closed ws)).countP (fun x => x.window = w) = s.slots.countP fun x => x.window = w := by
    rw [List.countP_map]
    exact List.countP_congr fun x _ => by simp only [Function.comp_apply, (x.closed_key ws).1]
  rw [State.slotLaw_iff, hslots, hqueue, hbeat']
  refine ⟨fun w => ?_, fun r hr => ?_, fun y hy ho => ?_, fun w => ?_, hbeat⟩
  · rw [hwindow]
    by_cases hw : w ∈ ws
    · obtain ⟨d, e, n, g, hwin⟩ := hcapturing hw
      have hheld := (hplace w).held
      rw [hwin] at hheld
      have hno : ∀ y ∈ s.slots.map (Slot.closed ws), Slot.openOf w y = false := by
        intro y hy
        obtain ⟨x, -, rfl⟩ := List.mem_map.mp hy
        rw [Bool.eq_false_iff]
        intro ho
        simp only [Slot.openOf, Bool.and_eq_true, decide_eq_true_eq] at ho
        obtain ⟨-, hout, -⟩ := Slot.closed_opened ho.1
        rw [(x.closed_key ws).1] at ho
        exact hout (ho.2 ▸ hw)
      have hopened : ∀ y ∈ s.slots.map (Slot.closed ws), y.window = w → y.status = .opened → False := by
        intro y hy hyw hyo
        have := hno y hy
        simp [Slot.openOf, hyw, hyo] at this
      rw [if_pos (List.contains_iff_mem.mpr hw), hwin]
      cases retire with
      | true =>
        refine ⟨hheld.trans (hcount w).symm, fun y hy hyw hyo => (hopened y hy hyw hyo).elim, ?_⟩
        show ((queueGroups (s.queue ++ [s.closeRecord true ws]) w).map Prod.fst).getLast? = some s.nextSeq
        rw [queueGroups_append, hone hw hwin]
        simp
      | false =>
        refine ⟨hheld.trans (hcount w).symm, fun y hy hyw hyo => (hopened y hy hyw hyo).elim, ?_, hnext w e⟩
        rw [tally_eq_zero hno]
        rfl
    · rw [if_neg (by simpa using hw)]
      refine PlaceLaw.of_queue ((hplace w).of_slots (hcount w) (fun y hy hyw hyo => ?_) (htally fun x _ => ?_)) ?_
      · obtain ⟨x, hx, rfl⟩ := List.mem_map.mp hy
        obtain ⟨ho, -, hsame⟩ := Slot.closed_opened hyo
        exact ⟨x, hx, hsame ▸ hyw, ho, by rw [hsame]⟩
      · unfold Slot.closed
        split
        next hc =>
          simp only [Slot.closing, Bool.and_eq_true, decide_eq_true_eq, List.contains_iff_mem] at hc
          have hne : x.window ≠ w := fun h => hw (h ▸ hc.2)
          simp [Slot.openOf, hne]
        next => rfl
      · rw [queueGroups_append, hnone hw, List.append_nil]
  · rcases List.mem_append.mp hr with hr | hr
    · refine (hbatch r hr).of_slots (htally fun x _ => x.closed_inBatch _ _) fun y hy hb => ?_
      obtain ⟨x, hx, rfl⟩ := List.mem_map.mp hy
      rw [x.closed_inBatch] at hb
      have hno : ¬x.closing ws = true := fun hc => by
        simp only [Slot.closing, Bool.and_eq_true, decide_eq_true_eq] at hc
        exact Bool.false_ne_true ((hs.not_inBatch_of_opened hx hc.1 hr).symm.trans hb)
      rw [Slot.closed, if_neg hno]
      exact (hbatch r hr).status x hx hb
    · rw [List.mem_singleton.mp hr]
      refine ⟨s.closeRecord_members retire hpairs, ?_, fun y hy hb => ?_⟩
      · rw [htally fun x _ => x.closed_inBatch _ _, tally_congr fun x hx => hs.inBatch_closeRecord retire hpairs hws hx,
          ← hs.closingGroups_tally (hpairs.imp ne_of_lt) hws]
        rfl
      · obtain ⟨x, hx, rfl⟩ := List.mem_map.mp hy
        rw [x.closed_inBatch, hs.inBatch_closeRecord retire hpairs hws hx] at hb
        rw [Slot.closed, if_pos hb]
        rfl
  · obtain ⟨x, hx, rfl⟩ := List.mem_map.mp hy
    simp only [x.closed_inBatch]
    by_cases hc : x.closing ws = true
    · exact ⟨_, List.mem_append_right _ List.mem_cons_self, (hs.inBatch_closeRecord retire hpairs hws hx).trans hc⟩
    · rw [Slot.closed, if_neg hc] at ho
      obtain ⟨r, hr, hb⟩ := hclosed x hx ho
      exact ⟨r, List.mem_append_left _ hr, hb⟩
  · by_cases hw : w ∈ ws
    · obtain ⟨d, e, n, g, hwin⟩ := hcapturing hw
      obtain ⟨-, -, hfresh⟩ := hs.group w d e n g hwin
      rw [queueGroups_append, hone hw hwin, List.map_append]
      exact List.nodup_append.mpr ⟨hepochs w, List.nodup_singleton e, fun a ha b hb hab => by
        rw [List.map_singleton, List.mem_singleton] at hb
        rw [hab, hb] at ha
        exact hfresh ha⟩
    · rw [queueGroups_append, hnone hw, List.append_nil]
      exact hepochs w

end

end Sys2Proof.Machine
end

section
/-! The slot law where a batch leaves the queue; the sequence numbers; and the step lemma. -/

namespace Sys2Proof.Machine

/-! ## A batch out of the queue (R18, R42, R43, R66, R93) -/

/-- R17, R18: the entry after the notice of batch `q`, with `last` the last of the window's batches left in the queue. -/
def WindowEntry.released (last : Option Sequence) (q : Sequence) : WindowEntry → WindowEntry
  | .retiring d e n rs =>
    if rs = q then
      match last with
      | some q' => .retiring d e n q'
      | none => .idle d e
    else .retiring d e n rs
  | x => x

theorem getLast?_filter_of {α : Type} {l : List α} {a : α} (h : l.getLast? = some a) {p : α → Bool} (ha : p a = true) :
    (l.filter p).getLast? = some a := by
  obtain ⟨init, rfl⟩ := List.getLast?_eq_some_iff.mp h
  rw [List.filter_append, List.filter_singleton, ha]
  simp

/-- R49: with its numbers distinct, the queue without the first record of a number is the queue without that number. -/
theorem eraseP_seq {queue : List BatchRecord} (h : (queue.map (·.seq)).Nodup) (q : Sequence) :
    queue.eraseP (·.seq = q) = queue.filter (·.seq ≠ q) := by
  induction queue with
  | nil => rfl
  | cons r rest ih =>
    obtain ⟨hr, hrest⟩ := List.nodup_cons.mp h
    by_cases hq : r.seq = q
    · have hkeep : ∀ x ∈ rest, x.seq ≠ q := fun x hx hxq => hr (List.mem_map.mpr ⟨x, hx, hxq.trans hq.symm⟩)
      rw [List.eraseP_cons_of_pos (by simpa using hq), List.filter_cons_of_neg (by simpa using hq),
        List.filter_eq_self.mpr fun x hx => by simpa using hkeep x hx]
    · rw [List.eraseP_cons_of_neg (by simpa using hq), List.filter_cons_of_pos (by simpa using hq), ih hrest]

section
variable {s t : State} (hs : s.SlotLaw) (hseq : (s.queue.map (·.seq)).Nodup) {r : BatchRecord} (hr : r ∈ s.queue)
include hs hseq hr

/-- R18: a window RETIRING on a batch is a member of it. -/
theorem State.SlotLaw.epochOf_of_retiring {w : WindowNo} {d : WindowDef} {e : Epoch} {n : Nat}
    (hwin : s.win w = .retiring d e n r.seq) : (r.epochOf w).isSome = true := by
  have hlast := hs.retiring w d e n r.seq hwin
  rw [queueGroups_seqs] at hlast
  obtain ⟨q, hq, hqr⟩ := List.mem_map.mp (List.mem_of_getLast? hlast)
  obtain ⟨hq, hsome⟩ := List.mem_filter.mp hq
  rwa [List.inj_on_of_nodup_map hseq hq hr hqr] at hsome

/-- R18, R42, R43: a batch leaves the queue with its slots; each of its windows has lost their count, and one RETIRING on it goes on to
its last batch left, or is IDLE. -/
theorem State.SlotLaw.remove (hqueue : t.queue = s.queue.filter (·.seq ≠ r.seq))
    (hslots : t.slots = s.slots.filter fun x => !x.inBatch r.members)
    (hwin : ∀ w, t.win w = ((s.win w).dropHeld (s.slots.countP fun x => x.inBatch r.members && x.window = w)).released
      ((queueGroups t.queue w).map Prod.fst).getLast? r.seq) (hhpi : t.hpi = s.hpi) : t.SlotLaw := by
  obtain ⟨hplace, hbatch, hclosed, hepochs, hbeat⟩ := s.slotLaw_iff.mp hs
  have hmem {q : BatchRecord} : q ∈ t.queue ↔ q ∈ s.queue ∧ q ≠ r := by
    rw [hqueue, List.mem_filter, decide_eq_true_eq]
    refine and_congr_right fun hq => not_congr ⟨fun h => List.inj_on_of_nodup_map hseq hq hr h, fun h => by rw [h]⟩
  have hsub (w : WindowNo) : (queueGroups t.queue w).Sublist (queueGroups s.queue w) := by
    rw [hqueue]
    exact List.filter_sublist.filterMap _
  have hnil {w : WindowNo} (h : queueGroups s.queue w = []) : queueGroups t.queue w = [] :=
    List.sublist_nil.mp (h ▸ hsub w)
  have hback {x : Slot} (hx : x ∈ t.slots) : x ∈ s.slots ∧ x.inBatch r.members = false := by
    rw [hslots, List.mem_filter, Bool.not_eq_true'] at hx
    exact hx
  have hcount (w : WindowNo) : t.slots.countP (fun x => x.window = w) =
      s.slots.countP (fun x => x.window = w) - s.slots.countP fun x => x.inBatch r.members && x.window = w := by
    rw [hslots, countP_window_filter]
  have hclosed' {x : Slot} (hx : x ∈ t.slots) (ho : x.status ≠ .opened) : ∃ q ∈ t.queue, x.inBatch q.members = true := by
    obtain ⟨hx, hnot⟩ := hback hx
    obtain ⟨q, hq, hb⟩ := hclosed x hx ho
    exact ⟨q, hmem.mpr ⟨hq, fun h => Bool.false_ne_true (hnot.symm.trans (h ▸ hb))⟩, hb⟩
  rw [State.slotLaw_iff]
  refine ⟨fun w => ?_, fun q hq => ?_, fun x hx ho => hclosed' hx ho, fun w => (hepochs w).sublist ((hsub w).map _), hhpi ▸ hbeat⟩
  · have hheld := (hplace w).held
    have hopened := (hplace w).opened
    have hgroups := (hplace w).groups
    rw [hwin w]
    generalize hk : (s.slots.countP fun x => x.inBatch r.members && x.window = w) = k
    cases he : s.win w with
    | free =>
      rw [he] at hheld hopened hgroups
      refine ⟨?_, fun x hx => hopened x (hback hx).1, hnil hgroups⟩
      rw [hcount, ← hheld]
      exact (Nat.zero_sub _).symm
    | idle d e =>
      rw [he] at hheld hopened hgroups
      refine ⟨?_, fun x hx => hopened x (hback hx).1, hnil hgroups⟩
      rw [hcount, ← hheld]
      exact (Nat.zero_sub _).symm
    | capturing d e n g =>
      rw [he] at hheld hopened hgroups
      refine ⟨?_, fun x hx => hopened x (hback hx).1, ?_, fun hmem' => hgroups.2 (((hsub w).map _).subset hmem')⟩
      · rw [hcount, ← hheld, hk]
        rfl
      · rw [hslots, tally_filter_of fun x hx ho => ?_]
        · exact hgroups.1
        · simp only [Slot.openOf, Bool.and_eq_true, decide_eq_true_eq] at ho
          rw [hs.not_inBatch_of_opened hx ho.1 hr]
          rfl
    | retiring d e n q =>
      rw [he] at hheld hopened hgroups
      have hopened' : ∀ x ∈ t.slots, x.window = w → x.status = .opened → False := fun x hx hxw hxo =>
        nomatch hopened x (hback hx).1 hxw hxo
      have hheld' : n - k = t.slots.countP fun x => x.window = w := by
        rw [hcount, ← hheld, hk]
        rfl
      by_cases hq : q = r.seq
      · cases hlast : ((queueGroups t.queue w).map Prod.fst).getLast? with
        | some q' =>
          simp only [WindowEntry.dropHeld, WindowEntry.released, if_pos hq]
          exact ⟨hheld', fun x hx hxw hxo => (hopened' x hx hxw hxo).elim, hlast⟩
        | none =>
          have hempty : queueGroups t.queue w = [] := List.map_eq_nil_iff.mp (List.getLast?_eq_none_iff.mp hlast)
          have hno : ∀ x ∈ t.slots, x.window ≠ w := by
            intro x hx hxw
            obtain ⟨q', hq', hb⟩ := hclosed' hx fun ho => hopened' x hx hxw ho
            have hin := (mem_queueGroups t.queue w q'.seq x.epoch).mpr ⟨q', hq', hxw ▸ (hs.inBatch_iff (hmem.mp hq').1 x).mp hb, rfl⟩
            rw [hempty] at hin
            cases hin
          simp only [WindowEntry.dropHeld, WindowEntry.released, if_pos hq]
          refine ⟨(List.countP_eq_zero.mpr fun x hx => ?_).symm, fun x hx hxw => absurd hxw (hno x hx), hempty⟩
          simpa using hno x hx
      · simp only [WindowEntry.dropHeld, WindowEntry.released, if_neg hq]
        refine ⟨hheld', fun x hx hxw hxo => (hopened' x hx hxw hxo).elim, ?_⟩
        have hfilter : (queueGroups t.queue w).map Prod.fst = ((queueGroups s.queue w).map Prod.fst).filter (· ≠ r.seq) := by
          rw [hqueue, queueGroups_seqs, queueGroups_seqs, List.filter_map, List.filter_filter, List.filter_filter]
          exact congrArg (List.map _) (List.filter_congr fun x _ => Bool.and_comm _ _)
        show ((queueGroups t.queue w).map Prod.fst).getLast? = some q
        rw [hfilter]
        exact getLast?_filter_of hgroups (by simpa using hq)
  · obtain ⟨hq, hne⟩ := hmem.mp hq
    refine (hbatch q hq).of_slots ?_ fun x hx => (hbatch q hq).status x (hback hx).1
    rw [hslots]
    refine tally_filter_of fun x _ hb => ?_
    rw [Bool.not_eq_true', Bool.eq_false_iff]
    exact fun h => hne (hs.inBatch_unique hq hr hb h)

end

theorem any_member_of_epochOf {r : BatchRecord} {w : WindowNo} (h : (r.epochOf w).isSome = true) :
    (r.members.any fun m => m.window = w) = true := by
  rw [BatchRecord.epochOf, Option.isSome_map, List.find?_isSome] at h
  exact List.any_eq_true.mpr h

theorem State.removeBatch_queue (s : State) (r : BatchRecord) : (s.removeBatch r).queue = s.queue.eraseP (·.seq = r.seq) := by
  simp [removeBatch, cancelRetire, freeSlots]

theorem State.removeBatch_slots (s : State) (r : BatchRecord) :
    (s.removeBatch r).slots = s.slots.filter fun x => !x.inBatch r.members := by
  simp [removeBatch, cancelRetire, freeSlots]

theorem State.removeBatch_hpi (s : State) (r : BatchRecord) : (s.removeBatch r).hpi = s.hpi := by
  simp [removeBatch, cancelRetire, freeSlots]

theorem State.removeBatch_win (s : State) (r : BatchRecord) (w : WindowNo) : (s.removeBatch r).win w =
    match (s.win w).dropHeld (s.slots.countP fun x => x.inBatch r.members && x.window = w) with
    | .retiring d ep held rs =>
      if (r.members.any fun m => m.window = w) && rs = r.seq then
        match (queueGroups (s.removeBatch r).queue w).getLast? with
        | some (q', _) => .retiring d ep held q'
        | none => .idle d ep
      else .retiring d ep held rs
    | e => e := by
  rw [removeBatch_queue, removeBatch, cancelRetire, mapWindows_win, setLog_win, freeSlots_win, setQueue_win,
    setQueue_slots]
  generalize (s.win w).dropHeld _ = e
  cases e <;> rfl

theorem State.completed_queue (s : State) (r : BatchRecord) (f : DrainFields) : (s.completed r f).queue = s.queue.tail := by
  simp [completed, retireMembers, freeSlots]

theorem State.completed_slots (s : State) (r : BatchRecord) (f : DrainFields) :
    (s.completed r f).slots = s.slots.filter fun x => !x.inBatch r.members := by
  simp [completed, retireMembers, freeSlots]

theorem State.completed_hpi (s : State) (r : BatchRecord) (f : DrainFields) : (s.completed r f).hpi = s.hpi := by
  simp [completed, retireMembers, freeSlots]

theorem State.completed_win (s : State) (r : BatchRecord) (f : DrainFields) (w : WindowNo) : (s.completed r f).win w =
    match (s.win w).dropHeld (s.slots.countP fun x => x.inBatch r.members && x.window = w) with
    | .retiring d ep held rs =>
      if (r.members.any fun m => m.window = w) && rs = r.seq then .idle d ep else .retiring d ep held rs
    | e => e := by
  rw [completed, setActivity_win, retireMembers, mapWindows_win, setQueue_win, setLog_win, freeSlots_win]
  generalize (s.win w).dropHeld _ = e
  cases e <;> rfl

/-- R66: an accepted CANCEL. -/
theorem State.SlotLaw.removeBatch {s : State} (hs : s.SlotLaw) (hseq : (s.queue.map (·.seq)).Nodup) {r : BatchRecord} (hr : r ∈ s.queue) :
    (s.removeBatch r).SlotLaw := by
  refine hs.remove hseq hr ((s.removeBatch_queue r).trans (eraseP_seq hseq r.seq)) (s.removeBatch_slots r) (fun w => ?_)
    (s.removeBatch_hpi r)
  rw [State.removeBatch_win, List.getLast?_map]
  generalize List.countP _ _ = k
  generalize queueGroups _ w = groups
  cases hwin : s.win w with
  | free | idle | capturing => rfl
  | retiring d e n q =>
    simp only [WindowEntry.dropHeld, WindowEntry.released]
    by_cases hq : q = r.seq
    · subst hq
      rw [any_member_of_epochOf (hs.epochOf_of_retiring hseq hr hwin)]
      cases groups.getLast? <;> simp
    · simp [hq]

/-- R93: a completion. -/
theorem State.SlotLaw.completed {s : State} (hs : s.SlotLaw) (hseq : (s.queue.map (·.seq)).Nodup) {r : BatchRecord} {f : DrainFields}
    (h : s.drainingHead = some (r, f)) : (s.completed r f).SlotLaw := by
  obtain ⟨rest, hq, -⟩ := (s.drainingHead_eq_some r f).mp h
  have hr : r ∈ s.queue := by rw [hq]; exact List.mem_cons_self
  have hrest : ∀ x ∈ rest, x.seq ≠ r.seq := by
    rw [hq, List.map_cons, List.nodup_cons] at hseq
    exact fun x hx hxr => hseq.1 (List.mem_map.mpr ⟨x, hx, hxr⟩)
  have htail : (s.completed r f).queue = rest := by rw [s.completed_queue, hq, List.tail_cons]
  have hqueue : rest = s.queue.filter (·.seq ≠ r.seq) := by
    rw [hq, List.filter_cons_of_neg (by simp), List.filter_eq_self.mpr fun x hx => by simpa using hrest x hx]
  refine hs.remove hseq hr (htail.trans hqueue) (s.completed_slots r f) (fun w => ?_) (s.completed_hpi r f)
  rw [State.completed_win, htail]
  generalize List.countP _ _ = k
  cases hwin : s.win w with
  | free | idle | capturing => rfl
  | retiring d e n q =>
    simp only [WindowEntry.dropHeld, WindowEntry.released]
    by_cases hqr : q = r.seq
    · subst hqr
      have hlast := hs.retiring w d e n r.seq hwin
      have hnone : ((queueGroups rest w).map Prod.fst).getLast? = none := by
        cases hrestlast : ((queueGroups rest w).map Prod.fst).getLast? with
        | none => rfl
        | some q =>
          rw [hq, ← List.singleton_append, queueGroups_append, List.map_append, List.getLast?_append, hrestlast, Option.some_or,
            Option.some.injEq] at hlast
          have hin := List.mem_of_getLast? hrestlast
          rw [queueGroups_seqs] at hin
          obtain ⟨x, hx, hxq⟩ := List.mem_map.mp hin
          exact absurd (hxq.trans hlast) (hrest x (List.mem_of_mem_filter hx))
      rw [any_member_of_epochOf (hs.epochOf_of_retiring hseq hr hwin), hnone]
      simp
    · simp [hqr]

/-! ## The sequence numbers (R49) -/

/-- R49: the numbers in the queue are distinct, and none is among the next `n` that the counter gives. -/
def State.FreshFor (n : Nat) (s : State) : Prop :=
  (s.queue.map (·.seq)).Nodup ∧ ∀ r ∈ s.queue, ∀ k < n, r.seq ≠ Nat.repeat nextSequence k s.nextSeq

theorem nextSequence_toNat (q : Sequence) : (nextSequence q).toNat = if q.toNat = 65535 then 1 else q.toNat + 1 := by
  unfold nextSequence
  have hq : q = 0xFFFF#16 ↔ q.toNat = 65535 := by rw [← BitVec.toNat_inj]; rfl
  have hlt := q.isLt
  by_cases h : q.toNat = 65535
  · rw [if_pos (hq.mpr h), if_pos h]
    rfl
  · rw [if_neg (mt hq.mp h), if_neg h, BitVec.toNat_add]
    exact Nat.mod_eq_of_lt (by simp; omega)

theorem repeat_succ_comm (k : Nat) (q : Sequence) :
    Nat.repeat nextSequence k (nextSequence q) = Nat.repeat nextSequence (k + 1) q := by
  induction k with
  | zero => rfl
  | succ k ih => exact congrArg nextSequence ih

/-- R49: the counter does not come round within eight numbers. -/
theorem repeat_nextSequence_toNat (k : Nat) (hk : k ≤ 8) (q : Sequence) :
    (Nat.repeat nextSequence k q).toNat = if q.toNat + k ≤ 65535 then q.toNat + k else q.toNat + k - 65535 := by
  have hlt := q.isLt
  induction k with
  | zero => exact (if_pos (by omega)).symm
  | succ k ih =>
    rw [Nat.repeat, nextSequence_toNat, ih (by omega)]
    split_ifs <;> omega

theorem repeat_nextSequence_ne (k : Nat) (hk : k < 8) (q : Sequence) : q ≠ Nat.repeat nextSequence (k + 1) q := by
  intro h
  have hnat := congrArg BitVec.toNat h
  rw [repeat_nextSequence_toNat (k + 1) hk] at hnat
  have hlt := q.isLt
  split_ifs at hnat <;> omega

section
variable {s t : State} {n : Nat}

theorem State.FreshFor.of_sublist (hs : s.FreshFor n) (hq : (t.queue.map (·.seq)).Sublist (s.queue.map (·.seq)))
    (hn : t.nextSeq = s.nextSeq) : t.FreshFor n := by
  refine ⟨hs.1.sublist hq, fun r hr k hk => ?_⟩
  obtain ⟨r', hr', hrr⟩ := List.mem_map.mp (hq.subset (List.mem_map_of_mem hr))
  rw [hn, ← hrr]
  exact hs.2 r' hr' k hk

theorem State.FreshFor.of_eq (hs : s.FreshFor n) (hq : t.queue.map (·.seq) = s.queue.map (·.seq))
    (hn : t.nextSeq = s.nextSeq) :
    t.FreshFor n := hs.of_sublist (hq ▸ List.Sublist.refl _) hn

/-- R49, R53: a CLOSE gives the next number, and the counter goes on. -/
theorem State.FreshFor.closeBatch (hs : s.FreshFor (n + 1)) (hn : n < 8) (retire : Bool) (ws : List WindowNo) :
    (s.closeBatch retire ws).FreshFor n := by
  obtain ⟨hnodup, hfresh⟩ := hs
  have hqueue : (s.closeBatch retire ws).queue = s.queue ++ [s.closeRecord retire ws] := rfl
  have hnext : (s.closeBatch retire ws).nextSeq = nextSequence s.nextSeq := rfl
  have hseq : (s.closeRecord retire ws).seq = s.nextSeq := rfl
  rw [State.FreshFor, hqueue, hnext, List.map_append, List.map_singleton, hseq, List.nodup_append]
  refine ⟨⟨hnodup, List.nodup_singleton _, fun a ha b hb => ?_⟩, fun r hr k hk => ?_⟩
  · obtain ⟨r, hr, rfl⟩ := List.mem_map.mp ha
    rw [List.mem_singleton.mp hb]
    exact hfresh r hr 0 n.succ_pos
  · rw [repeat_succ_comm]
    rcases List.mem_append.mp hr with hr | hr
    · exact hfresh r hr (k + 1) (Nat.succ_lt_succ hk)
    · rw [List.mem_singleton.mp hr, hseq]
      exact repeat_nextSequence_ne k (hk.trans hn) s.nextSeq

end

/-- R49: every move keeps the numbers fresh, for as many batches fewer as it forms. -/
theorem Move.freshFor {l : Label} {s t : State} {n : Nat} (h : Move l s t) (hn : n + l.cost ≤ 8) (hs : s.FreshFor (n + l.cost)) :
    t.FreshFor n := by
  have hnil (hq : t.queue = []) : t.FreshFor n := by
    rw [State.FreshFor, hq]
    exact ⟨List.nodup_nil, nofun⟩
  cases h with
  | close _ retire mask hw hq => exact hs.closeBatch hn retire _
  | cancel _ r hr hd hl =>
    refine State.FreshFor.of_sublist hs ?_ (by simp [State.removeBatch, State.cancelRetire, State.freeSlots])
    rw [s.removeBatch_queue]
    exact List.eraseP_sublist.map _
  | complete _ r f h =>
    refine State.FreshFor.of_sublist hs ?_ (by simp [State.completed, State.retireMembers, State.freeSlots])
    rw [s.completed_queue]
    exact (List.tail_sublist _).map _
  | head _ f hf =>
    rw [State.changeHead_eq]
    refine State.FreshFor.of_eq hs ?_ rfl
    rw [State.setQueue_queue]
    cases s.queue with
    | nil => rfl
    | cons r rest => simp [(hf r).seq]
  | begin _ r rest d hq hr hl hd ha hc =>
    refine State.FreshFor.of_eq hs ?_ (by rw [State.reserveHead_eq]; rfl)
    rw [State.reserveHead_eq, hq]
    rfl
  | stage _ _ w a wd be ha h => obtain ⟨d, e, held, g, -, ⟨x, -, rfl⟩ | ⟨-, -, -, rfl⟩⟩ := s.stage_cases t w a wd be h <;> exact hs
  | abort _ w hw => obtain ⟨d, e, held, g, -, h⟩ := State.abortGroup_of_isCapturing hw; rw [h]; exact hs
  | wipe => exact hnil rfl
  | reset => exact hnil rfl
  | _ => exact hs

/-! ## The slot law through a step -/

theorem State.SlotLaw.of_empty {s : State} (hw : ∀ w, s.win w = .free) (hsl : s.slots = []) (hq : s.queue = [])
    (hb : ∀ h ∈ s.hpi.held, h.addr % 4 = 0) : s.SlotLaw := by
  rw [State.slotLaw_iff, hsl, hq]
  exact ⟨fun w => hw w ▸ ⟨rfl, nofun, rfl⟩, nofun, nofun, fun _ => List.nodup_nil, hb⟩

/-- Every move keeps every slot in its place. -/
theorem Move.slotLaw {l : Label} {s t : State} (h : Move l s t) (hwf : s.StoreWf) (hdrain : s.DrainLaw)
    (hseq : (s.queue.map (·.seq)).Nodup) (hs : s.SlotLaw) : t.SlotLaw := by
  have hbeat := hs.beat
  have hlen : s.queue.length ≤ 8 := hdrain.1.1
  cases h with
  | hpi _ h hb => exact hs.of_eq (fun _ => rfl) rfl rfl fun b hb' => (hb b hb').elim id fun ⟨b', hb', h⟩ => h ▸ hbeat b' hb'
  | stage _ _ w a wd be ha h =>
    exact hs.stage hwf (ha.elim id fun ⟨b, hb, h⟩ => h ▸ hbeat b hb) h
  | slots _ f hf => exact hs.mapSlots hf
  | markGroup _ w f => exact hs.setWin ((hs.place w).markGroup f)
  | define _ w d hw hd => exact hs.setWin_of_empty (.inr (by rw [hw]; rfl)) rfl (.inl (.inl rfl))
  | start _ w d e hw => exact hs.setWin_of_empty (.inl (by rw [hw]; rfl)) rfl (.inr ⟨d, e, 0, rfl⟩)
  | free _ w d e hw => exact hs.setWin_of_empty (.inl (by rw [hw]; rfl)) rfl (.inl (.inr rfl))
  | abort _ w hw => exact hs.abort hlen hw
  | close _ retire mask hw hq => exact hs.closeBatch hq retire (maskWindows_pairwise mask) hw
  | cancel _ r hr hd hl => exact hs.removeBatch hseq (List.mem_of_find?_eq_some hr)
  | complete _ r f h => exact hs.completed hseq h
  | head _ f hf => exact hs.changeHead hf
  | begin _ r rest d hq hr hl hd ha hc => exact (hs.reserveHead hq).of_eq (fun _ => rfl) rfl rfl (hs.reserveHead hq).beat
  | wipe =>
    refine .of_empty (fun w => s.wiped_win w) rfl rfl ?_
    have hhpi : s.wiped.hpi = s.hpi := by simp [State.wiped, State.stopDraining_eq]
    rw [hhpi]
    exact hbeat
  | reset => exact .of_empty (fun w => s.hardwareReset_win w) rfl rfl nofun
  | _ => exact hs.of_eq (fun _ => rfl) rfl rfl hbeat

/-- The laws that the slot law rests on, for as many batches as a run may still form. -/
structure State.Kept (n : Nat) (s : State) : Prop where
  store : s.StoreWf
  drain : s.DrainLaw
  fresh : s.FreshFor n
  slots : s.SlotLaw

/-- A run that forms no more batches than the numbers are fresh for keeps every slot in its place. -/
theorem Moves.kept {L : List Label} {n : Nat} {s t : State} (h : Moves L n s t) (hn : n ≤ 8) (hs : s.Kept n) : t.SlotLaw := by
  induction h with
  | refl => exact hs.slots
  | @step l n s t u hl h _ ih =>
    exact ih (by omega) ⟨h.storeWf hs.store, h.drainLaw hs.drain, h.freshFor hn hs.fresh, h.slotLaw hs.store hs.drain hs.fresh.1 hs.slots⟩

/-- Settles O53: every move keeps the slot law, and a step forms at most as many batches as places of the response queue. -/
theorem stepKeepsEverySlotInItsPlace : Obligations.StepKeepsEverySlotInItsPlace := by
  unfold Obligations.StepKeepsEverySlotInItsPlace
  intro s t hwf hdrain hlink hfresh hs h
  unfold step at h
  split at h
  next c rest _ =>
    have hmoves := exec_moves h
    have hmax : max 8 (s.setPending rest).slc.responses.length = 8 := max_eq_left hlink.1
    have hkept : (s.setPending rest).Kept 8 := ⟨hwf, hdrain, hfresh, hs.of_eq (fun _ => rfl) rfl rfl hs.beat⟩
    rw [hmax] at hmoves
    exact hmoves.kept le_rfl hkept
  next =>
    cases h
    exact (s.tick_moves (L := .event .starved :: .event .stallTimeout :: .event .writeLost :: drainLabels)
      (fun _ h => by simp only [List.mem_cons, h, or_true]) (by decide) (by decide) (by decide)).kept (by decide)
      ⟨hwf, hdrain, ⟨hfresh.1, nofun⟩, hs⟩

end Sys2Proof.Machine
end

section
/-! The step, RESETN, and the setup link's own commands. -/

namespace Sys2Proof.Machine

/-! ## The step and the tick -/

/-- Settles O1: the step's one equation. -/
theorem stepRunsTheFrontCommand : Obligations.StepRunsTheFrontCommand := by
  unfold Obligations.StepRunsTheFrontCommand
  intro i rest s h
  rw [step, h]
  rfl

section
variable {s : State}

theorem step_of_idle (h : s.pending = []) : step s = .next s.tick := by rw [step, h]

theorem exec_stallLimitExpiry (hr : s.resetn = true) : exec .stallLimitExpiry s = .next s.expireStall := whenReleased_of_resetn _ hr

theorem exec_starvationTimerExpiry (hr : s.resetn = true) :
    exec .starvationTimerExpiry s = .next (if s.timerRuns then s.expireStarvation.arbitrate else s) :=
  whenReleased_of_resetn (fun s => if s.timerRuns then s.expireStarvation.arbitrate else s) hr

theorem State.tick_of_resetn (hr : s.resetn = true) : s.tick = s.tickStall.tickStarvation := if_pos hr

theorem State.tickStall_of_none (h : s.hpi.held = none) : s.tickStall = s := by rw [tickStall, h]

/-- The beat counted, one microsecond on. -/
theorem State.setBeat_held (s : State) {t : HostTransaction} (ht : s.hpi.txn = some t) (b : BeatStatus) :
    s.setBeat b = { s with hpi := { s.hpi with txn := some { t with beat := b } } } := by
  rw [s.setBeat_eq t b ht]
  rfl

theorem Hpi.held_of_beat {h : Hpi} {t : HostTransaction} (ht : h.txn = some t) {b : HeldBeat} (hb : t.beat = .held b) : h.held = some b :=
  (h.held_eq_some b).mpr ⟨t, ht, hb⟩

/-- R111: the expiry does not depend on the time that the beat has been held. -/
theorem State.expireStall_setBeat {h : HeldBeat} (hh : s.hpi.held = some h) (n : Nat) :
    (s.setBeat (.held { h with elapsed := n })).expireStall = s.expireStall := by
  obtain ⟨t, ht, hb⟩ := (Hpi.held_eq_some _ _).mp hh
  have hheld : (s.setBeat (.held { h with elapsed := n })).hpi.held = some { h with elapsed := n } := by
    rw [s.setBeat_held ht]
    rfl
  have hanswer : (s.setBeat (.held { h with elapsed := n })).answerBeat true none = s.answerBeat true none := by
    rw [s.setBeat_held ht, s.answerBeat_eq t _ _ ht, State.answerBeat_eq _ { t with beat := _ } _ _ rfl]
    rfl
  have hwin : (s.setBeat (.held { h with elapsed := n })).win h.window = s.win h.window := by
    rw [s.setBeat_held ht]
    rfl
  simp only [expireStall, hheld, hh, hanswer, hwin]

/-- R108, R111: one microsecond of a held beat below its limit. -/
theorem State.tickStall_of_lt {h : HeldBeat} (hh : s.hpi.held = some h) (hlt : h.elapsed + 1 < s.config.stallLimit.toNat) :
    s.tickStall = s.setBeat (.held { h with elapsed := h.elapsed + 1 }) := by
  simp only [tickStall, hh]
  exact if_neg (Nat.not_le.mpr hlt)

/-- R111: one microsecond of a held beat that reaches its limit. -/
theorem State.tickStall_of_le {h : HeldBeat} (hh : s.hpi.held = some h) (hle : s.config.stallLimit.toNat ≤ h.elapsed + 1) :
    s.tickStall = s.expireStall := by
  simp only [tickStall, hh, if_pos hle]
  exact State.expireStall_setBeat hh _

/-- The drain engine, the queue, the configuration and the pins are not the held beat's. -/
theorem State.expireStall_frame (s : State) : s.expireStall.drain = s.drain ∧ s.expireStall.queue = s.queue ∧
    s.expireStall.quiet = s.quiet ∧ s.expireStall.resetnConfig = s.resetnConfig := by
  refine ⟨?_, ?_, ?_, s.expireStall_resetnConfig⟩ <;>
  · unfold expireStall
    split
    next h hh =>
      obtain ⟨t, ht, -⟩ := (Hpi.held_eq_some _ _).mp hh
      rw [s.answerBeat_eq t _ _ ht]
      dsimp only
      split <;> rfl
    · rfl

theorem State.tickStall_frame (s : State) : s.tickStall.drain = s.drain ∧ s.tickStall.timerRuns = s.timerRuns ∧
    s.tickStall.resetnConfig = s.resetnConfig := by
  have htimer {t : State} (h : t.drain = s.drain ∧ t.queue = s.queue ∧ t.quiet = s.quiet ∧ t.resetnConfig = s.resetnConfig) :
      t.drain = s.drain ∧ t.timerRuns = s.timerRuns ∧ t.resetnConfig = s.resetnConfig := by
    obtain ⟨hd, hq, hquiet, hc⟩ := h
    have hconfig : t.config = s.config := congrArg Prod.snd hc
    exact ⟨hd, by simp only [timerRuns, hd, hq, hquiet, hconfig], hc⟩
  cases hh : s.hpi.held with
  | none => rw [tickStall_of_none hh]; exact ⟨rfl, rfl, rfl⟩
  | some h =>
    by_cases hle : s.config.stallLimit.toNat ≤ h.elapsed + 1
    · rw [tickStall_of_le hh hle]
      exact htimer s.expireStall_frame
    · obtain ⟨t, ht, -⟩ := (Hpi.held_eq_some _ _).mp hh
      rw [tickStall_of_lt hh (Nat.not_le.mp hle), s.setBeat_held ht]
      exact ⟨rfl, rfl, rfl⟩

/-- R96, R97: the next microsecond brings the starvation timer to its limit. -/
def State.StarvationComes (s : State) : Prop :=
  s.config.starvationLimit.toNat ≤ s.drain.timer.elapsed ∨
    s.config.starvationLimit.toNat ≤ s.drain.timer.elapsed + 1 ∧ 1000 ≤ s.drain.timer.micros + 1

/-- R97: the expiry writes over what the timer had counted. -/
theorem State.expireStarvation_setTimer (t : StarvationTimer)
    (h : t.expire s.config.starvationLimit.toNat = s.drain.timer.expire s.config.starvationLimit.toNat) :
    (s.setTimer t).expireStarvation = s.expireStarvation := by
  have htimer : (s.setTimer t).setTimer ((s.setTimer t).drain.timer.expire (s.setTimer t).config.starvationLimit.toNat) =
      s.setTimer (s.drain.timer.expire s.config.starvationLimit.toNat) := by
    rw [← h]
    rfl
  unfold expireStarvation
  rw [htimer]
  rfl

theorem State.tickStarvation_of_comes (hruns : s.timerRuns = true) (h : s.StarvationComes) :
    s.tickStarvation = s.expireStarvation.arbitrate := by
  unfold tickStarvation countStarvation
  rw [if_pos hruns]
  by_cases hdue : s.starvationDue = true
  · rw [if_pos hdue, if_pos hdue]
  · have hlt : s.drain.timer.elapsed < s.config.starvationLimit.toNat := by simpa [starvationDue] using hdue
    obtain ⟨hle, hmicros⟩ := h.resolve_left (Nat.not_le.mpr hlt)
    have htick : s.drain.timer.tick = { s.drain.timer with elapsed := s.drain.timer.elapsed + 1, micros := 0 } :=
      if_neg (Nat.not_lt.mpr hmicros)
    have hreached : (s.setTimer s.drain.timer.tick).starvationDue = true := by
      rw [htick]
      exact decide_eq_true hle
    rw [if_neg hdue, if_pos hreached, expireStarvation_setTimer]
    rw [htick, StarvationTimer.expire, StarvationTimer.expire, if_pos hle, if_neg (Nat.not_le.mpr hlt)]
    have heq : s.drain.timer.elapsed + 1 = s.config.starvationLimit.toNat := by omega
    rw [heq]

theorem State.tickStarvation_of_not_comes (hruns : s.timerRuns = true) (h : ¬s.StarvationComes) :
    s.tickStarvation = s.setTimer s.drain.timer.tick := by
  unfold StarvationComes at h
  have hdue : ¬s.starvationDue = true := by
    simp only [starvationDue, decide_eq_true_eq]
    omega
  have hnot : ¬(s.setTimer s.drain.timer.tick).starvationDue = true := by
    have helapsed : (s.setTimer s.drain.timer.tick).starvationDue =
        decide (s.config.starvationLimit.toNat ≤ s.drain.timer.tick.elapsed) := rfl
    rw [helapsed, decide_eq_true_eq, StarvationTimer.tick]
    split_ifs with hm
    · dsimp only; omega
    · dsimp only; omega
  unfold tickStarvation countStarvation
  rw [if_pos hruns, if_neg hdue, if_neg hnot]

theorem State.tickStarvation_of_not_runs (hruns : s.timerRuns = false) : s.tickStarvation = s := by
  rw [tickStarvation, hruns, if_neg Bool.false_ne_true]

end

/-- Settles O2: the two ticks one after the other, each below its limit and at it. -/
theorem idleStepCountsOneMicrosecond : Obligations.IdleStepCountsOneMicrosecond := by
  unfold Obligations.IdleStepCountsOneMicrosecond
  intro s hs
  obtain ⟨hdrain, hrunsEq, hconfigEq⟩ := s.tickStall_frame
  have htick (hr : s.resetn = true) : step s = .next s.tickStall.tickStarvation := by
    rw [step_of_idle hs, State.tick_of_resetn hr]
  have hstopped (hr : s.resetn = true) (hruns : s.timerRuns = false) : step s = .next s.tickStall := by
    rw [htick hr, State.tickStarvation_of_not_runs (hrunsEq.trans hruns)]
  have hnone (hr : s.resetn = true) (hh : s.hpi.held = none) : step s = .next s.tickStarvation := by
    rw [htick hr, State.tickStall_of_none hh]
  have hexpiry {u : State} (hr : u.resetn = true) (hruns : u.timerRuns = true) (h : u.StarvationComes) :
      .next u.tickStarvation = exec .starvationTimerExpiry u := by
    rw [exec_starvationTimerExpiry hr, if_pos hruns, State.tickStarvation_of_comes hruns h]
  refine ⟨fun hr => ?_, fun hr hruns hh => ?_, fun t h hr hruns ht hb hlt => ?_, fun h hr hruns hh hle => ?_,
    fun hr hruns hh hlt hm => ?_, fun hr hruns hh hlt hm => ?_, fun hr hruns hh hle hm => ?_, fun hr hruns hh hle => ?_,
    fun t h hr hruns ht hb => ?_⟩
  · rw [step_of_idle hs, State.tick, hr, if_neg Bool.false_ne_true]
  · rw [hstopped hr hruns, State.tickStall_of_none hh]
  · rw [hstopped hr hruns, State.tickStall_of_lt (Hpi.held_of_beat ht hb) hlt, s.setBeat_held ht]
  · rw [hstopped hr hruns, State.tickStall_of_le hh hle, exec_stallLimitExpiry hr]
  · rw [hnone hr hh, State.tickStarvation_of_not_comes hruns (by unfold State.StarvationComes; omega), StarvationTimer.tick, if_pos hm]
    rfl
  · rw [hnone hr hh, State.tickStarvation_of_not_comes hruns (by unfold State.StarvationComes; omega), StarvationTimer.tick,
      if_neg (Nat.not_lt.mpr hm)]
    rfl
  · rw [hnone hr hh, hexpiry hr hruns (.inr ⟨hle, hm⟩)]
  · rw [hnone hr hh, hexpiry hr hruns (.inl hle)]
  · have hheld := Hpi.held_of_beat ht hb
    have hconfig : s.tickStall.config = s.config := congrArg Prod.snd hconfigEq
    have hcomes : s.tickStall.StarvationComes ↔ s.config.starvationLimit.toNat ≤ s.drain.timer.elapsed ∨
        s.config.starvationLimit.toNat = s.drain.timer.elapsed + 1 ∧ 1000 ≤ s.drain.timer.micros + 1 := by
      rw [State.StarvationComes, hdrain, hconfig]
      omega
    refine ⟨s.tickStall, ?_, fun hdue => ?_, fun hdue => ?_⟩
    · split
      next hlt => rw [State.tickStall_of_lt hheld hlt, s.setBeat_held ht]
      next hle => rw [State.tickStall_of_le hheld (Nat.not_lt.mp hle), exec_stallLimitExpiry hr]
    · rw [htick hr, hexpiry ((congrArg Prod.fst hconfigEq).trans hr) (hrunsEq.trans hruns) (hcomes.mpr hdue)]
    · have hcounted : s.tickStall.drain.timer.tick = s.drain.timer.tick := by rw [hdrain]
      rw [htick hr, State.tickStarvation_of_not_comes (hrunsEq.trans hruns) (mt hcomes.mp hdue), hcounted]
      rfl

/-! ## RESETN -/

/-- Settles O5: the reset state, field by field. -/
theorem hardwareResetClearsEveryBlock : Obligations.HardwareResetClearsEveryBlock := by
  unfold Obligations.HardwareResetClearsEveryBlock
  intro s
  refine ⟨s.hardwareReset, s.hardwareReset.releaseReset, rfl, rfl, rfl, rfl, rfl,
    (by decide : State.reset.attn = true), fun w => s.hardwareReset_win w, rfl, rfl, rfl, rfl, rfl,
    rfl, rfl, rfl, rfl, rfl, rfl, rfl, rfl, rfl, rfl, rfl, rfl, rfl, rfl, rfl, rfl, rfl, rfl, fun c => ?_, rfl, rfl, fun hr => ?_⟩
  · exact (by decide : ∀ c : Channel, State.reset.slc.limits[c.val] = 16) c
  · show Host.Outcome.next _ = _
    rw [if_pos hr]

end Sys2Proof.Machine
end

section
/-! The setup link: transfer periods, the assembler's table, the transmitter, and the frames that are refused or wait. -/

namespace Sys2Proof.Machine

/-! ## Transfer periods and the assembler's table (R134, R138, R142) -/

section
variable {s : State}

theorem exec_transferPeriodStart (hr : s.resetn = true) :
    exec .transferPeriodStart s = .next (if s.lsel then s.startPeriod else s) := congrArg Host.Outcome.next (if_pos hr)

theorem exec_transferPeriodEnd (hr : s.resetn = true) :
    exec .transferPeriodEnd s = .next (if s.lsel then s else s.endPeriod) := congrArg Host.Outcome.next (if_pos hr)

/-- R142: a frame being assembled is discarded with LINK_ERROR. -/
theorem State.endPeriod_eq (s : State) : s.endPeriod =
    { s with
      lsel := true
      events :=
        match s.slc.assembler with
        | .header _ | .payload _ _ => s.events ||| 0x200#11
        | .idle | .frameStart | .ignore => s.events
      slc := { s.slc with assembler := .idle, txPos := 0, txFill := false, ldo := 0xFF#8 } } := by
  unfold endPeriod discardFrame
  have hlsel : (s.setLsel true).slc = s.slc := rfl
  rw [hlsel]
  cases s.slc.assembler <;> rfl

/-- Settles O15: the two edges, each on its own level of LSEL. -/
theorem transferPeriodEdges : Obligations.TransferPeriodEdges := by
  unfold Obligations.TransferPeriodEdges
  intro s hr
  refine ⟨fun hl => ?_, fun hl => ?_, fun hl => ?_, fun hl => ?_⟩
  · rw [exec_transferPeriodStart hr, hl]
    rfl
  · rw [exec_transferPeriodStart hr, hl]
    rfl
  · rw [exec_transferPeriodEnd hr, hl, if_neg Bool.false_ne_true, s.endPeriod_eq] <;> rfl
  · rw [exec_transferPeriodEnd hr, hl]
    rfl

theorem State.receiveByte_frameStart (h : s.slc.assembler = .frameStart) {b : Byte} (hb : b ≠ 0xFF#8) :
    s.receiveByte b = s.setAssembler (.header [b]) := by
  simp only [receiveByte, h]
  exact if_neg hb

theorem State.receiveByte_header {got : List Byte} (h : s.slc.assembler = .header got) (hlen : got.length < 3) (b : Byte) :
    s.receiveByte b = s.setAssembler (.header (got ++ [b])) := by
  simp only [receiveByte, h]
  split
  next b0 b1 b2 => simp at hlen
  next => rfl

theorem State.receiveByte_lastOfHeader {b0 b1 b2 : Byte} (h : s.slc.assembler = .header [b0, b1, b2]) (b : Byte) :
    s.receiveByte b = s.takeHeader b0 b1 b2 b := by
  simp only [receiveByte, h]

theorem State.receiveByte_payload {hd : LongHeader} {got : List Byte} (h : s.slc.assembler = .payload hd got)
    (hlen : got.length + 1 < 4 * hd.words + 2) (b : Byte) : s.receiveByte b = s.setAssembler (.payload hd (got ++ [b])) := by
  simp only [receiveByte, h, if_pos hlen]

theorem State.receiveByte_lastOfPayload {hd : LongHeader} {got : List Byte} (h : s.slc.assembler = .payload hd got)
    (hlen : ¬got.length + 1 < 4 * hd.words + 2) (b : Byte) :
    s.receiveByte b = (s.setAssembler .frameStart).accept (longRequest hd (got ++ [b])) := by
  simp only [receiveByte, h, if_neg hlen]

/-- Settles O16: one equation of `State.receiveByte` for each row of the table. -/
theorem byteReceivedFollowsTheTable : Obligations.ByteReceivedFollowsTheTable := by
  unfold Obligations.ByteReceivedFollowsTheTable
  intro b s hr
  rw [exec_byteReceived b hr]
  refine ⟨?_, fun h hb => ?_, fun h hb => ?_, fun got h hlen => ?_, fun hd got h hlen => ?_⟩
  · rintro (h | h) <;> simp only [State.receiveByte, h]
  · rw [hb, State.receiveByte_fill h]
  · rw [State.receiveByte_frameStart h hb]; rfl
  · rw [State.receiveByte_header h hlen]; rfl
  · rw [State.receiveByte_payload h hlen]; rfl

end

/-! ## The transmitter (R134, R146, R150) -/

section
variable {s : State}

theorem exec_byteSent (hr : s.resetn = true) : exec .byteSent s = .next s.sendByte := whenReleased_of_resetn _ hr

theorem exec_responseSent (hr : s.resetn = true) : exec .responseSent s = .next s.sendRest := whenReleased_of_resetn _ hr

/-- The FILLED head is sent within a transfer period. -/
def State.Sends (s : State) (r : Response) (rest : List Place) : Prop :=
  s.slc.assembler ≠ .idle ∧ s.slc.responses = .filled r :: rest ∧ s.slc.txFill = false

theorem State.sendByte_of_sends {r : Response} {rest : List Place} (h : s.Sends r rest) :
    s.sendByte =
      if s.slc.txPos + 1 < r.bytes.length then
        s.setSlc { s.slc with txPos := s.slc.txPos + 1, ldo := r.bytes.getD s.slc.txPos 0xFF#8 }
      else s.popResponse (r.bytes.getD s.slc.txPos 0xFF#8) := by
  obtain ⟨ha, hps, hfill⟩ := h
  unfold sendByte
  split
  · contradiction
  · simp only [hps, hfill]

theorem State.sendRest_of_sends {r : Response} {rest : List Place} (h : s.Sends r rest) :
    s.sendRest = s.popResponse (r.bytes.getLastD 0xFF#8) := by
  obtain ⟨ha, hps, hfill⟩ := h
  unfold sendRest
  split
  · contradiction
  · simp only [hps, hfill]

/-- R146: a byte of the head before its last. -/
theorem State.sendByte_of_lt {r : Response} {rest : List Place} (h : s.Sends r rest) (hlt : s.slc.txPos + 1 < r.bytes.length) :
    s.sendByte = s.setSlc { s.slc with txPos := s.slc.txPos + 1, ldo := r.bytes[s.slc.txPos] } := by
  rw [sendByte_of_sends h, if_pos hlt, ← List.getD_eq_getElem r.bytes 0xFF#8]

theorem getLastD_eq_getElem {α : Type} (l : List α) (d : α) {n : Nat} (h : n + 1 = l.length) : l.getLastD d = l[n] := by
  have hlast : l.length - 1 = n := by omega
  rw [List.getLastD_eq_getLast?, List.getLast?_eq_getElem?, hlast, List.getElem?_eq_getElem (by omega), Option.getD_some]

/-- R146: the last byte of the head. -/
theorem State.sendByte_of_last {r : Response} {rest : List Place} (h : s.Sends r rest) (hlast : s.slc.txPos + 1 = r.bytes.length) :
    s.sendByte = s.sendRest := by
  have hbyte : r.bytes.getD s.slc.txPos 0xFF#8 = r.bytes.getLastD 0xFF#8 := by
    rw [List.getD_eq_getElem _ _ (by omega), getLastD_eq_getElem _ _ hlast]
  rw [sendByte_of_sends h, if_neg (by omega), sendRest_of_sends h, hbyte]

/-- The state after `n` bytes of the head have been sent. -/
def State.sentBytes (s : State) (r : Response) (n : Nat) : State :=
  s.setSlc { s.slc with txPos := n, ldo := if n = 0 then s.slc.ldo else r.bytes.getD (n - 1) 0xFF#8 }

theorem State.sentBytes_succ (s : State) (r : Response) (n : Nat) :
    s.sentBytes r (n + 1) = s.setSlc { s.slc with txPos := n + 1, ldo := r.bytes.getD n 0xFF#8 } := rfl

theorem execAll_cons_next {i : Instr} {rest : List Instr} {t : State} (h : exec i s = .next t) :
    execAll (i :: rest) s = execAll rest t := by
  rw [execAll, h]

theorem execAll_append_next {is js : List Instr} {t : State} (h : execAll is s = .next t) : execAll (is ++ js) s = execAll js t := by
  induction is generalizing s with
  | nil => cases h; rfl
  | cons i is ih =>
    obtain ⟨u, hu⟩ := exec_eq_next i s
    rw [execAll_cons_next hu] at h
    rw [List.cons_append, execAll_cons_next hu, ih h]

/-- R146: the bytes before the last, one a byte time. -/
theorem execAll_byteSent (hr : s.resetn = true) {r : Response} {rest : List Place} (h : s.Sends r rest) (hpos : s.slc.txPos = 0) (n : Nat)
    (hn : n < r.bytes.length) : execAll (List.replicate n .byteSent) s = .next (s.sentBytes r n) := by
  induction n with
  | zero =>
    have hnone : s.sentBytes r 0 = s := by
      rw [State.sentBytes, if_pos rfl, ← hpos]
      rfl
    rw [hnone]
    rfl
  | succ n ih =>
    have hsends : (s.sentBytes r n).Sends r rest := h
    rw [List.replicate_succ', execAll_append_next (ih (by omega)), execAll_cons_next (exec_byteSent (by exact hr)),
      State.sendByte_of_lt hsends hn]
    rw [s.sentBytes_succ r, List.getD_eq_getElem _ _ (by omega)]
    rfl

/-- R136: a response frame has its header, so it is not empty. -/
theorem Response.bytes_ne_nil (r : Response) : 0 < r.bytes.length := by
  unfold Response.bytes
  split <;> simp [frameBytes, withHeaderCheck]

/-- R146: the whole frame, one byte a byte time, leaves what its rest sent as one command leaves. -/
theorem execAll_byteSent_whole (hr : s.resetn = true) {r : Response} {rest : List Place} (h : s.Sends r rest) (hpos : s.slc.txPos = 0) :
    execAll (List.replicate r.bytes.length .byteSent) s = exec .responseSent s := by
  obtain ⟨n, hn⟩ : ∃ n, r.bytes.length = n + 1 := ⟨r.bytes.length - 1, by have := r.bytes_ne_nil; omega⟩
  have hsends : (s.sentBytes r n).Sends r rest := h
  rw [hn, List.replicate_succ', execAll_append_next (execAll_byteSent hr h hpos n (by omega)),
    execAll_cons_next (exec_byteSent (by exact hr)), State.sendByte_of_last hsends hn.symm, exec_responseSent hr,
    State.sendRest_of_sends hsends, State.sendRest_of_sends h]
  rfl

/-- R134, R146, R150: with nothing to send the transmitter leaves the queue, and LDO carries fill within a transfer period. -/
theorem State.sendRest_of_not_sends (h : s.slc.responses = [] ∨ (∃ q rest, s.slc.responses = .awaiting q :: rest) ∨ s.slc.txFill = true) :
    s.sendRest = s := by
  unfold sendRest
  split
  · rfl
  · split
    next hps hfill =>
      rcases h with h | ⟨q, rest, h⟩ | h
      · rw [h] at hps; cases hps
      · rw [h] at hps; cases hps
      · rw [h] at hfill; cases hfill
    next => rfl

theorem State.sendByte_of_not_sends (ha : s.slc.assembler ≠ .idle)
    (h : s.slc.responses = [] ∨ (∃ q rest, s.slc.responses = .awaiting q :: rest) ∨ s.slc.txFill = true) :
    s.sendByte = s.setSlc { s.slc with ldo := 0xFF#8 } := by
  unfold sendByte
  split
  · contradiction
  · split
    next hps hfill =>
      rcases h with h | ⟨q, rest, h⟩ | h
      · rw [h] at hps; cases hps
      · rw [h] at hps; cases hps
      · rw [h] at hfill; cases hfill
    next => rfl

end

/-- Settles O17: by induction on the bytes sent. -/
theorem transmitterSendsFramesAndFill : Obligations.TransmitterSendsFramesAndFill := by
  unfold Obligations.TransmitterSendsFramesAndFill
  refine ⟨fun r rest s hr ha hps hfill => ?_, fun s hr => ⟨fun ha => ?_, fun h => ⟨?_, fun ha => ?_⟩⟩⟩
  · have hsends : s.Sends r rest := ⟨ha, hps, hfill⟩
    have hrest : s.sendRest = { s with slc := { s.slc with responses := rest, txPos := 0, ldo := r.bytes.getLastD 0xFF#8 } } := by
      rw [State.sendRest_of_sends hsends, State.popResponse, hps]
      rfl
    refine ⟨by rw [exec_responseSent hr, hrest], fun hlt => ?_, fun hpos => ⟨fun i hi => ?_, execAll_byteSent_whole hr hsends hpos⟩⟩
    · rw [exec_byteSent hr]
      by_cases hlast : s.slc.txPos + 1 = r.bytes.length
      · rw [State.sendByte_of_last hsends hlast, hrest, getLastD_eq_getElem _ _ hlast, if_pos hlast, if_pos hlast]
      · rw [State.sendByte_of_lt hsends (by omega), if_neg hlast, if_neg hlast]
        rfl
    · by_cases hlast : i + 1 = r.bytes.length
      · refine ⟨s.sendRest, ?_, ?_⟩
        · rw [hlast, execAll_byteSent_whole hr hsends hpos, exec_responseSent hr]
        · rw [hrest]
          exact getLastD_eq_getElem _ _ hlast
      · exact ⟨_, execAll_byteSent hr hsends hpos (i + 1) (by omega), List.getD_eq_getElem r.bytes 0xFF#8 hi⟩
  · rw [exec_byteSent hr, exec_responseSent hr]
    simp only [State.sendByte, State.sendRest, ha, and_self]
  · rw [exec_responseSent hr, State.sendRest_of_not_sends h]
  · rw [exec_byteSent hr, State.sendByte_of_not_sends ha h]
    rfl

/-! ## Frames the link refuses (R139 to R141) -/

section
variable {s : State}

theorem exec_headerCheckFailure (hr : s.resetn = true) : exec .headerCheckFailure s = .next s.failHeader := whenReleased_of_resetn _ hr

theorem exec_frameFormRefusal (ch : Channel) (tag : Tag) (fault : FormFault) (hr : s.resetn = true) :
    exec (.frameFormRefusal ch tag fault) s = .next ((s.afterFormFault fault).accept (.refused ch tag .length)) :=
  whenReleased_of_resetn (fun s => (s.afterFormFault fault).accept (.refused ch tag .length)) hr

theorem exec_payloadCheckFailure (ch : Channel) (tag : Tag) (hr : s.resetn = true) :
    exec (.payloadCheckFailure ch tag) s = .next (s.endFrame.accept (.refused ch tag .check)) :=
  whenReleased_of_resetn (fun s => s.endFrame.accept (.refused ch tag .check)) hr

theorem exec_linkOverrun (hr : s.resetn = true) :
    exec .linkOverrun s = .next (if 8 ≤ s.slc.responses.length then s.setEvent .linkOverrun else s) :=
  whenReleased_of_resetn (fun s => if Config.responsePlaces ≤ s.slc.responses.length then s.setEvent .linkOverrun else s) hr

theorem State.endFrame_eq (s : State) : s.endFrame =
    { s with
      slc :=
        { s.slc with
          assembler :=
            match s.slc.assembler with
            | .header _ | .payload _ _ => .frameStart
            | x => x } } := by
  unfold endFrame setAssembler Assembler.afterFrame
  cases s.slc.assembler <;> rfl

theorem saturatingSucc_toNat (n : BitVec 8) : (saturatingSucc n).toNat = min 255 (n.toNat + 1) := by
  unfold saturatingSucc
  have hlt := n.isLt
  by_cases h : n = 0xFF#8
  · rw [if_pos h, h]
    rfl
  · have hne : n.toNat ≠ 255 := fun h' => h (BitVec.eq_of_toNat_eq h')
    rw [if_neg h, BitVec.toNat_add]
    show (n.toNat + 1) % 2 ^ 8 = _
    omega

end

/-- Settles O19: the three fields that a header check failure changes. -/
theorem headerCheckFailureIgnoresTheRest : Obligations.HeaderCheckFailureIgnoresTheRest := by
  unfold Obligations.HeaderCheckFailureIgnoresTheRest
  intro s hr
  refine ⟨s.failHeader, exec_headerCheckFailure hr, ?_, fun e he => ?_, saturatingSucc_toNat _, fun ha => if_neg ha, rfl⟩
  · rw [State.failHeader, State.setEvent_events, EventSet.has_with]
    simp
  · rw [State.failHeader, State.setEvent_events, EventSet.has_with, decide_eq_false he, Bool.or_false]
    rfl

/-- Settles O20: each refused frame claims its place and is answered at once. -/
theorem refusedFramesAreAnswered : Obligations.RefusedFramesAreAnswered := by
  unfold Obligations.RefusedFramesAreAnswered
  intro ch tag s hs
  have hended : s.endFrame.LinkReady := s.endFrame_linkReady hs
  have hignored : s.ignoreRest.LinkReady := hs
  refine ⟨?_, ?_, fun ha => ?_, fun ha => ?_⟩
  · rw [exec_frameFormRefusal ch tag _ hs.1, State.afterFormFault, s.endFrame.accept_refused ch tag _ hended, s.endFrame_eq] <;> rfl
  · rw [exec_payloadCheckFailure ch tag hs.1, s.endFrame.accept_refused ch tag _ hended, s.endFrame_eq] <;> rfl
  · rw [exec_frameFormRefusal ch tag _ hs.1, State.afterFormFault, s.ignoreRest.accept_refused ch tag _ hignored, State.ignoreRest,
      if_neg ha]
    rfl
  · have hsame : s.ignoreRest = s := by rw [State.ignoreRest, if_pos ha, ← ha]; rfl
    rw [exec_frameFormRefusal ch tag _ hs.1, State.afterFormFault, hsame, s.accept_refused ch tag _ hs]

/-- Settles O21: at eight places every frame is discarded, and behind a WIPE every frame waits. -/
theorem framesClaimPlaces : Obligations.FramesClaimPlaces := by
  unfold Obligations.FramesClaimPlaces
  intro k kind ch tag body s hr
  refine ⟨fun hfull => ?_, fun hroom => ?_, fun hroom hw => ?_⟩
  · have hover (t : State) (ht : t.slc.responses = s.slc.responses) (q : Request) :
        t.accept q = { t with events := t.events ||| 0x400#11 } := t.accept_full q (by rw [ht]; exact hfull)
    refine ⟨?_, ?_, ?_, ?_, ?_, ?_⟩
    · rw [exec_commandOf k ch tag body s hr, hover s rfl]
    · rw [exec_unknownKind kind ch tag body hr, hover s rfl]
    · rw [exec_frameFormRefusal ch tag _ hr, State.afterFormFault, hover s.endFrame rfl, s.endFrame_eq] <;> rfl
    · rw [exec_frameFormRefusal ch tag _ hr, State.afterFormFault, hover s.ignoreRest rfl]
      rfl
    · rw [exec_payloadCheckFailure ch tag hr, hover s.endFrame rfl, s.endFrame_eq] <;> rfl
    · rw [exec_linkOverrun hr, if_pos hfull]
      rfl
  · rw [exec_linkOverrun hr, if_neg (Nat.not_le.mpr hroom)]
  · have hwait (t : State) (ht : t.slc.responses = s.slc.responses) (htw : t.slc.wipeTaken = s.slc.wipeTaken) (q : Request) :
        t.accept q = { t with slc := { t.slc with responses := t.slc.responses ++ [.awaiting q] } } :=
      t.accept_behind q (by rw [ht]; exact hroom) (htw.trans hw)
    refine ⟨?_, ?_, ?_, ?_, ?_⟩
    · rw [exec_commandOf k ch tag body s hr, hwait s rfl rfl]
    · rw [exec_unknownKind kind ch tag body hr, hwait s rfl rfl]
    · rw [exec_frameFormRefusal ch tag _ hr, State.afterFormFault, hwait s.endFrame rfl rfl, s.endFrame_eq] <;> rfl
    · rw [exec_frameFormRefusal ch tag _ hr, State.afterFormFault, hwait s.ignoreRest rfl rfl]
      rfl
    · rw [exec_payloadCheckFailure ch tag hr, hwait s.endFrame rfl rfl, s.endFrame_eq] <;> rfl

/-! ## The form of a request (R153) -/

section
variable {s : State} {ws : List Word}

theorem longForm1_of_length (h : ws.length ≠ 1) (k : Word → State × Reply) : longForm1 (.long ws) s k = (s, .nak .length) := by
  unfold longForm1
  split
  next hws => cases hws; exact absurd rfl h
  next => rfl

theorem longForm3_of_length (h : ws.length ≠ 3) (k : Word → Word → Word → State × Reply) :
    longForm3 (.long ws) s k = (s, .nak .length) := by
  unfold longForm3
  split
  next hws => cases hws; exact absurd rfl h
  next => rfl

theorem longForm5_of_length (h : ws.length ≠ 5) (k : Word → Word → Word → Word → Word → State × Reply) :
    longForm5 (.long ws) s k = (s, .nak .length) := by
  unfold longForm5
  split
  next hws => cases hws; exact absurd rfl h
  next => rfl

end

/-- R153: a long frame of another number of words than the kind's. -/
theorem Kind.length_ne_of_formOk {k : Kind} {ws : List Word} (hform : k.formOk (.long ws) = false) {n : Nat}
    (hk : k.payloadWords = some n) : ws.length ≠ n := by
  rintro rfl
  simp [formOk, hk] at hform

/-- R153: the request's function refuses a form that is not its kind's. -/
theorem requestOf_wrongForm {k : Kind} {ch : Channel} {body : FrameBody} (hform : k.formOk body = false)
    {f : State → State × Reply} (hf : requestOf k ch body = some f) (s : State) : f s = (s, .nak .length) := by
  cases body with
  | short a =>
    cases k with
    | configSet | winDefine | close | cancel | eventAck => cases hf; rfl
    | _ => cases hform
  | long ws =>
    cases k with
    | configSet => cases hf; exact longForm3_of_length (Kind.length_ne_of_formOk hform rfl) _
    | winDefine => cases hf; exact longForm5_of_length (Kind.length_ne_of_formOk hform rfl) _
    | close | cancel | eventAck => cases hf; exact longForm1_of_length (Kind.length_ne_of_formOk hform rfl) _
    | wipe | resync => cases hf
    | _ => cases hf; rfl

/-- R153: WIPE and RESYNC sent long are refused like the other short kinds. -/
theorem State.takeRequest_long {k : Kind} (hk : k = .wipe ∨ k = .resync) (ch : Channel) (tag : Tag) (ws : List Word) (t : State) :
    t.takeRequest (.frame { kind := k.code, ch := ch, tag := tag, body := .long ws }) = fillReply ch tag (t, .nak .length) := by
  simp only [takeRequest, kindOfCode_code]
  rcases hk with rfl | rfl <;> rfl

/-- Settles O22: the kinds with a function of their own, and WIPE and RESYNC. -/
theorem wrongFormIsRefusedWithLength : Obligations.WrongFormIsRefusedWithLength := by
  unfold Obligations.WrongFormIsRefusedWithLength
  intro k ch tag body s hs hform
  cases hf : requestOf k ch body with
  | some f => exact exec_request_of_reply k ch tag hf hs (requestOf_wrongForm hform hf s)
  | none =>
    have hk : k = .wipe ∨ k = .resync := by
      cases k with
      | wipe => exact .inl rfl
      | resync => exact .inr rfl
      | _ => cases hf
    cases body with
    | short a => rcases hk with rfl | rfl <;> cases hform
    | long ws =>
      rw [exec_commandOf k ch tag _ s hs.1, s.accept_blind _ ch tag (fun t => (t, .nak .length)) ⟨fun _ _ => rfl, fun _ => ⟨rfl, rfl⟩⟩
        (State.takeRequest_long hk ch tag ws) hs]

end Sys2Proof.Machine
end

section
/-! Frames byte by byte: the words of a payload, the header and payload checks, and what the assembler makes of them; and STATUS. -/

namespace Sys2Proof.Machine

/-! ## Words and their bytes (R135) -/

theorem wordOf_bytesOf (w : Word) : wordOf (byteOf w 3) (byteOf w 2) (byteOf w 1) (byteOf w 0) = w := by
  apply BitVec.eq_of_toNat_eq
  simp only [wordOf, byteOf, toNat_append_eq, BitVec.extractLsb'_toNat, Nat.shiftRight_eq_div_pow]
  have := w.isLt
  omega

theorem wordsOf_flatMap (ws : List Word) : wordsOf (ws.flatMap bytesOf) = ws := by
  induction ws with
  | nil => rfl
  | cons w ws ih =>
    show wordOf _ _ _ _ :: wordsOf (ws.flatMap bytesOf) = _
    rw [ih, wordOf_bytesOf]

theorem length_flatMap_bytesOf (ws : List Word) : (ws.flatMap bytesOf).length = 4 * ws.length := by
  induction ws with
  | nil => rfl
  | cons w ws ih =>
    rw [List.flatMap_cons, List.length_append, ih, List.length_cons]
    show 4 + _ = _
    omega

/-- R135: the bytes of the i-th word of a payload. -/
theorem take_drop_flatMap_bytesOf (ws : List Word) (tail : List Byte) (i : Nat) (h : i < ws.length) :
    ((ws.flatMap bytesOf ++ tail).drop (4 * i)).take 4 = bytesOf ws[i] := by
  induction ws generalizing i with
  | nil => cases h
  | cons w ws ih =>
    cases i with
    | zero => rfl
    | succ i =>
      have hdrop : ((w :: ws).flatMap bytesOf ++ tail).drop (4 * (i + 1)) = (ws.flatMap bytesOf ++ tail).drop (4 * i) := by
        rw [List.flatMap_cons, List.append_assoc, Nat.mul_succ, Nat.add_comm, ← List.drop_drop]
        rfl
      rw [hdrop, ih i (Nat.lt_of_succ_lt_succ h)]
      rfl

/-! ## Headers and checks (R136, R137, Table 8-3) -/

theorem headerByte1_fields : ∀ (ch : Channel) (long : Bool) (tag : Tag),
    channelOf (headerByte1 ch long tag) = ch ∧ tagOf (headerByte1 ch long tag) = tag ∧ longFlag (headerByte1 ch long tag) = long ∧
      reservedFlag (headerByte1 ch long tag) = false := by
  decide

/-- R137: the two bytes of a check, the upper one first. -/
theorem checkBytes_iff (c0 c1 : Byte) (c : BitVec 16) : [c0, c1] = [c.extractLsb' 8 8, c.extractLsb' 0 8] ↔ c0 ++ c1 = c := by
  have hc : c.extractLsb' 8 8 ++ c.extractLsb' 0 8 = c := by
    apply BitVec.eq_of_toNat_eq
    simp only [toNat_append_eq, BitVec.extractLsb'_toNat, Nat.shiftRight_eq_div_pow]
    have := c.isLt
    omega
  constructor
  · intro h
    simp only [List.cons.injEq, and_true] at h
    rw [h.1, h.2, hc]
  · rintro rfl
    congr 1
    · apply BitVec.eq_of_toNat_eq
      simp only [toNat_append_eq, BitVec.extractLsb'_toNat, Nat.shiftRight_eq_div_pow]
      have := c0.isLt
      have := c1.isLt
      omega
    · congr 1
      apply BitVec.eq_of_toNat_eq
      simp only [toNat_append_eq, BitVec.extractLsb'_toNat, Nat.shiftRight_eq_div_pow]
      have := c1.isLt
      omega

/-- R141: what a complete long frame makes, by its reserved bit and its check. -/
theorem longRequest_append (hd : LongHeader) {payload : List Byte} (hlen : payload.length = 4 * hd.words) (c0 c1 : Byte) :
    longRequest hd (payload ++ [c0, c1]) =
      if hd.reservedBit then .refused hd.ch hd.tag .length
      else if c0 ++ c1 = crc16 payload then .frame { kind := hd.kind, ch := hd.ch, tag := hd.tag, body := .long (wordsOf payload) }
      else .refused hd.ch hd.tag .check := by
  have htake : (payload ++ [c0, c1]).take (4 * hd.words) = payload := by rw [← hlen, List.take_left]
  have hcheck : payload ++ [c0, c1] = withPayloadCheck payload ↔ c0 ++ c1 = crc16 payload := by
    rw [withPayloadCheck, List.append_cancel_left_eq, checkBytes_iff]
  simp only [longRequest, htake, hcheck]

/-! ## Frames received byte by byte (R138) -/

section
variable {s : State}

theorem State.setAssembler_setAssembler (s : State) (a b : Assembler) : (s.setAssembler a).setAssembler b = s.setAssembler b := rfl

theorem State.setAssembler_eq_self {a : Assembler} (h : s.slc.assembler = a) : s.setAssembler a = s := by
  subst h
  rfl

/-- R138: the four bytes of a header from a frame boundary. -/
theorem execAll_header (hr : s.resetn = true) (h : s.slc.assembler = .frameStart) {b0 : Byte} (h0 : b0 ≠ 0xFF#8) (b1 b2 b3 : Byte)
    (rest : List Instr) :
    execAll (.byteReceived b0 :: .byteReceived b1 :: .byteReceived b2 :: .byteReceived b3 :: rest) s =
      execAll rest ((s.setAssembler (.header [b0, b1, b2])).takeHeader b0 b1 b2 b3) := by
  have hfirst : exec (.byteReceived b0) s = .next (s.setAssembler (.header [b0])) := by
    rw [exec_byteReceived b0 hr, State.receiveByte_frameStart h h0]
  have hnext (got : List Byte) (hlen : got.length < 3) (b : Byte) :
      exec (.byteReceived b) (s.setAssembler (.header got)) = .next (s.setAssembler (.header (got ++ [b]))) := by
    rw [exec_byteReceived b (by exact hr), State.receiveByte_header (got := got) rfl hlen]
    rfl
  have hlast : exec (.byteReceived b3) (s.setAssembler (.header [b0, b1, b2])) =
      .next ((s.setAssembler (.header [b0, b1, b2])).takeHeader b0 b1 b2 b3) := by
    rw [exec_byteReceived b3 (by exact hr), State.receiveByte_lastOfHeader (b0 := b0) (b1 := b1) (b2 := b2) rfl]
  rw [execAll_cons_next hfirst, execAll_cons_next (hnext [b0] (by simp) b1), List.cons_append, List.nil_append,
    execAll_cons_next (hnext [b0, b1] (by simp) b2)]
  exact execAll_cons_next hlast

/-- R138: the bytes of a payload and its check, to the last. -/
theorem execAll_payload (hr : s.resetn = true) {hd : LongHeader} {got bs : List Byte} (h : s.slc.assembler = .payload hd got)
    (hne : bs ≠ []) (hlen : got.length + bs.length = 4 * hd.words + 2) :
    execAll (bs.map .byteReceived) s = .next ((s.setAssembler .frameStart).accept (longRequest hd (got ++ bs))) := by
  induction bs generalizing s got with
  | nil => exact absurd rfl hne
  | cons b bs ih =>
    rw [List.length_cons] at hlen
    rw [List.map_cons]
    cases bs with
    | nil =>
      rw [execAll_cons_next (exec_byteReceived b hr), State.receiveByte_lastOfPayload h (by rw [List.length_nil] at hlen; omega)]
      rfl
    | cons c cs =>
      rw [List.length_cons] at hlen
      rw [execAll_cons_next (exec_byteReceived b hr), State.receiveByte_payload h (by omega),
        ih (s := s.setAssembler (.payload hd (got ++ [b]))) hr rfl (List.cons_ne_nil c cs) (by simp; omega), List.append_assoc]
      rfl

/-- R136, R139: a header whose check fails. -/
theorem takeHeader_of_check {b0 b1 b2 b3 : Byte} (hc : b3 ≠ crc8 [b0, b1, b2]) : s.takeHeader b0 b1 b2 b3 = s.failHeader :=
  if_pos hc.symm

/-- R138, R140: a short header whose check holds. -/
theorem takeHeader_of_short {b0 b1 b2 b3 : Byte} (hc : b3 = crc8 [b0, b1, b2]) (hshort : longFlag b1 = false) :
    s.takeHeader b0 b1 b2 b3 =
      (s.setAssembler .frameStart).accept
        (if reservedFlag b1 then .refused (channelOf b1) (tagOf b1) .length
        else .frame { kind := b0, ch := channelOf b1, tag := tagOf b1, body := .short b2 }) := by
  unfold State.takeHeader
  rw [if_neg (not_not_intro hc.symm), hshort, if_neg Bool.false_ne_true]
  split <;> rfl

/-- R138, R140: a long header whose check holds. -/
theorem takeHeader_of_long {b0 b1 b2 b3 : Byte} (hc : b3 = crc8 [b0, b1, b2]) (hlong : longFlag b1 = true) :
    s.takeHeader b0 b1 b2 b3 =
      if b2.toNat = 0 ∨ 64 < b2.toNat then s.ignoreRest.accept (.refused (channelOf b1) (tagOf b1) .length)
      else s.setAssembler (.payload
        { kind := b0, ch := channelOf b1, tag := tagOf b1, reservedBit := reservedFlag b1, words := b2.toNat } []) := by
  unfold State.takeHeader
  rw [if_neg (not_not_intro hc.symm), if_pos hlong]

/-- R138, R141: a whole long frame with a good header and a word count in range. -/
theorem execAll_longFrame (hr : s.resetn = true) (h : s.slc.assembler = .frameStart) {b0 b1 b2 b3 : Byte} (h0 : b0 ≠ 0xFF#8)
    (hc : b3 = crc8 [b0, b1, b2]) (hlong : longFlag b1 = true) (hlow : 1 ≤ b2.toNat) (hhigh : b2.toNat ≤ 64) {payload : List Byte}
    (hlen : payload.length = 4 * b2.toNat) (c0 c1 : Byte) :
    execAll ((b0 :: b1 :: b2 :: b3 :: (payload ++ [c0, c1])).map .byteReceived) s =
      .next (s.accept
        (if reservedFlag b1 then .refused (channelOf b1) (tagOf b1) .length
        else if c0 ++ c1 = crc16 payload then
          .frame { kind := b0, ch := channelOf b1, tag := tagOf b1, body := .long (wordsOf payload) }
        else .refused (channelOf b1) (tagOf b1) .check)) := by
  simp only [List.map_cons]
  rw [execAll_header hr h h0, takeHeader_of_long hc hlong, if_neg (by omega), State.setAssembler_setAssembler]
  refine Eq.trans (execAll_payload (by exact hr) rfl (by simp) (by simp [hlen])) ?_
  rw [State.setAssembler_setAssembler, State.setAssembler_eq_self h, List.nil_append, longRequest_append _ hlen]

/-- R138: a whole short frame with a good header. -/
theorem execAll_shortFrame (hr : s.resetn = true) (h : s.slc.assembler = .frameStart) {b0 b1 b2 b3 : Byte} (h0 : b0 ≠ 0xFF#8)
    (hc : b3 = crc8 [b0, b1, b2]) (hshort : longFlag b1 = false) :
    execAll ([b0, b1, b2, b3].map .byteReceived) s =
      .next (s.accept
        (if reservedFlag b1 then .refused (channelOf b1) (tagOf b1) .length
        else .frame { kind := b0, ch := channelOf b1, tag := tagOf b1, body := .short b2 })) := by
  simp only [List.map_cons, List.map_nil]
  rw [execAll_header hr h h0, takeHeader_of_short hc hshort, State.setAssembler_setAssembler, State.setAssembler_eq_self h]
  rfl

/-- R135, R138, R143: the bytes of a frame hand it to the link. -/
theorem execAll_frameBytes (hr : s.resetn = true) (h : s.slc.assembler = .frameStart) {kind : Byte} (h0 : kind ≠ 0xFF#8) (ch : Channel)
    (tag : Tag) {body : FrameBody} (hbody : body.wellFormed = true) :
    execAll ((Frame.bytes { kind := kind, ch := ch, tag := tag, body := body }).map .byteReceived) s =
      .next (s.accept (.frame { kind := kind, ch := ch, tag := tag, body := body })) := by
  cases body with
  | short a =>
    obtain ⟨hch, htag, hlong, hres⟩ := headerByte1_fields ch false tag
    refine (execAll_shortFrame hr h h0 rfl hlong).trans ?_
    rw [hres, hch, htag, if_neg Bool.false_ne_true]
  | long ws =>
    obtain ⟨hch, htag, hlong, hres⟩ := headerByte1_fields ch true tag
    simp only [FrameBody.wellFormed, Bool.and_eq_true, decide_eq_true_eq] at hbody
    have hwords : (BitVec.ofNat 8 ws.length).toNat = ws.length := by
      rw [BitVec.toNat_ofNat]
      omega
    refine (execAll_longFrame hr h h0 rfl hlong (by omega) (by omega) (payload := ws.flatMap bytesOf)
      (by rw [length_flatMap_bytesOf, hwords]) _ _).trans ?_
    rw [hres, hch, htag, if_neg Bool.false_ne_true, if_pos ((checkBytes_iff _ _ _).mp rfl), wordsOf_flatMap]

end

/-- Settles O13: both commands hand the frame to the link, as its bytes do. -/
theorem frameBytesReachTheCommandPath : Obligations.FrameBytesReachTheCommandPath := by
  unfold Obligations.FrameBytesReachTheCommandPath
  refine ⟨fun k ch tag body s hbody hr h => ?_, fun kind ch tag body s h0 hbody hr h => ?_, rfl⟩
  · have hkind : k.code ≠ 0xFF#8 := by cases k <;> decide
    rw [execAll_frameBytes hr h hkind ch tag hbody, exec_commandOf k ch tag body s hr]
  · rw [execAll_frameBytes hr h h0 ch tag hbody, exec_unknownKind kind ch tag body hr]

/-- Settles O14: one fault for each branch of the assembler. -/
theorem faultyFramesReachTheirRefusals : Obligations.FaultyFramesReachTheirRefusals := by
  unfold Obligations.FaultyFramesReachTheirRefusals
  intro b0 b1 b2 b3 payload c0 c1 s h0 hr h
  have hheader : execAll ([b0, b1, b2, b3].map .byteReceived) s =
      .next ((s.setAssembler (.header [b0, b1, b2])).takeHeader b0 b1 b2 b3) := execAll_header hr h h0 b1 b2 b3 []
  have hstart : s.slc.assembler ≠ .idle := by rw [h]; nofun
  have hended : s.endFrame = s := s.endFrame_eq_self (by rw [h]; rfl)
  refine ⟨fun hc => ?_, fun hc hlong hcount => ?_, fun hc hshort hres => ?_, fun hc hlong hlow hhigh hres hlen => ?_,
    fun hc hlong hlow hhigh hres hlen hcheck => ?_⟩
  · rw [hheader, takeHeader_of_check hc, exec_headerCheckFailure hr]
    simp only [State.failHeader, if_neg hstart]
    rfl
  · rw [hheader, takeHeader_of_long hc hlong, if_pos hcount, exec_frameFormRefusal _ _ _ hr, State.afterFormFault, State.ignoreRest,
      State.ignoreRest, if_neg hstart]
    rfl
  · rw [execAll_shortFrame hr h h0 hc hshort, if_pos (by exact hres), exec_frameFormRefusal _ _ _ hr, State.afterFormFault, hended]
  · rw [execAll_longFrame hr h h0 hc hlong hlow hhigh hlen, if_pos (by exact hres), exec_frameFormRefusal _ _ _ hr, State.afterFormFault,
      hended]
  · have hclear : ¬reservedFlag b1 = true := Bool.eq_false_iff.mp hres
    rw [execAll_longFrame hr h h0 hc hlong hlow hhigh hlen, if_neg hclear, if_neg hcheck, exec_payloadCheckFailure _ _ hr, hended]

/-! ## Response frames (R156) -/

theorem headerByte1_bits : ∀ (ch : Channel) (long : Bool) (tag : Tag),
    (headerByte1 ch long tag).toNat / 64 = ch.val ∧ (headerByte1 ch long tag).toNat % 16 = tag.val ∧
      (headerByte1 ch long tag).getLsbD 4 = false ∧ (headerByte1 ch long tag).getLsbD 5 = long := by
  decide

/-- Settles O18: the bytes of each reply, in sending order. -/
theorem responseFramesHaveTheirForm : Obligations.ResponseFramesHaveTheirForm := by
  unfold Obligations.ResponseFramesHaveTheirForm
  refine ⟨rfl, ?_⟩
  rintro ch tag ⟨-, -, reply⟩ rfl rfl
  cases reply with
  | ack =>
    obtain ⟨hch, htag, hres, hlong⟩ := headerByte1_bits _ false _
    exact ⟨_, _, _, _, [], rfl, rfl, hch, htag, hres, rfl, hlong, rfl, rfl⟩
  | nak why =>
    obtain ⟨hch, htag, hres, hlong⟩ := headerByte1_bits _ false _
    exact ⟨_, _, _, _, [], rfl, rfl, hch, htag, hres, rfl, hlong, rfl, rfl⟩
  | data ws =>
    obtain ⟨hch, htag, hres, hlong⟩ := headerByte1_bits _ true _
    have hlen := length_flatMap_bytesOf ws
    refine ⟨_, _, _, _, withPayloadCheck (ws.flatMap bytesOf), rfl, rfl, hch, htag, hres, rfl, hlong, BitVec.toNat_ofNat _ _, ?_,
      fun i hi => take_drop_flatMap_bytesOf ws _ i hi, (crc16 (ws.flatMap bytesOf)).extractLsb' 8 8,
      (crc16 (ws.flatMap bytesOf)).extractLsb' 0 8, ?_, ?_⟩
    · rw [withPayloadCheck, List.length_append, hlen]
      rfl
    · rw [withPayloadCheck, ← hlen, List.drop_left]
    · rw [withPayloadCheck, ← hlen, List.take_left]
      exact (checkBytes_iff _ _ _).mp rfl

/-! ## STATUS (R159) -/

/-- Settles O25: the fields of each word, side by side. -/
theorem statusReportsTheDevice : Obligations.StatusReportsTheDevice := by
  unfold Obligations.StatusReportsTheDevice
  intro ch tag a s hs hqueue hlog hstore
  have hlen : s.queue.length ≤ 8 := hqueue.1
  have hrecords : s.log.records.length ≤ 32 := (Nat.le_add_right _ _).trans hlog
  have hslots : s.slots.length ≤ 512 := hstore.2
  refine ⟨_, _, _, _, exec_request_of_reply .status ch tag rfl hs rfl, ?_, ?_, ?_, ?_⟩
  · simp only [toNat_append_eq, BitVec.toNat_ofNat]
    omega
  · have hfree : (BitVec.ofNat 16 s.freeSlotCount).toNat = 512 - s.slots.length := by
      rw [BitVec.toNat_ofNat, State.freeSlotCount]
      exact Nat.mod_eq_of_lt (by show 512 - _ < _; omega)
    rw [toNat_append_eq, hfree, State.drainingSeq, State.drainingHead]
    cases s.queue with
    | nil => rfl
    | cons r rest => cases hr : r.drainFields <;> simp [hr, BatchRecord.isDraining]
  · simp only [toNat_append_eq, BitVec.toNat_ofNat]
    omega
  · have hphase : s.drain.phase.code.toNat = match s.drain.phase with
        | .closed => 0
        | .quiet => 1
        | .forced => 2 := by
      cases s.drain.phase <;> rfl
    have hactivity : s.drain.activity.code.toNat = match s.drain.activity with
        | .idle => 0
        | .waitLog => 1
        | .writing _ => 2
        | .held => 3 := by
      cases s.drain.activity <;> rfl
    have hheld : (heldCode s.hpi.held).toNat = match s.hpi.held with
        | none => 0
        | some h => if h.reason = .stall then 1 else 2 := by
      cases s.hpi.held with
      | none => rfl
      | some h => cases hreason : h.reason <;> simp [heldCode, hreason]
    have hsum : (s.slc.headerErrors ++ s.drain.phase.code ++ s.drain.activity.code ++ heldCode s.hpi.held ++ 0#8).toNat =
        s.slc.headerErrors.toNat * 2 ^ 24 + s.drain.phase.code.toNat * 2 ^ 20 + s.drain.activity.code.toNat * 2 ^ 16 +
          (heldCode s.hpi.held).toNat * 2 ^ 8 := by
      simp only [toNat_append_eq, BitVec.toNat_ofNat]
      ring
    rw [hsum, hphase, hactivity, hheld] <;> rfl

end Sys2Proof.Machine
end

section
/-! The host port: requests and beats taken, the routes of Table 5-1, the ends of a held beat, the issue of a PASS write and memory's
answers to the host path. -/

namespace Sys2Proof.Machine

variable {s : State} {t : HostTransaction}

/-! ## Requests and beats (R103, R104) -/

theorem exec_hostTransactionRequest (adr : BitVec 22) (wr : Bool) (cnt : BitVec 4) (hr : s.resetn = true) :
    exec (.hostTransactionRequest adr wr cnt) s = .next (s.takeRequestFromHost { adr := adr, wr := wr, cnt := cnt }) :=
  whenReleased_of_resetn (fun s => s.takeRequestFromHost _) hr

theorem exec_hostReadBeat (hr : s.resetn = true) : exec .hostReadBeat s = .next s.takeReadBeat :=
  whenReleased_of_resetn State.takeReadBeat hr

/-- R104: no beat is next where the transaction, if there is one, is of the other direction or its beat is not answered. -/
theorem Hpi.nextBeat_eq_none {h : Hpi} {wr : Bool} (hn : ∀ t ∈ h.txn, t.req.wr = !wr ∨ t.beat ≠ .waiting) : h.nextBeat wr = none := by
  unfold nextBeat
  split
  next t ht =>
    refine if_neg fun ⟨hdir, hbeat⟩ => ?_
    rcases hn t ht with hother | hbusy
    · cases wr <;> simp_all
    · exact hbusy hbeat
  next => rfl

/-- R104: the next beat of a read transaction is taken and goes its route. -/
theorem State.takeReadBeat_waiting (ht : s.hpi.txn = some t) (hbeat : t.beat = .waiting) (hwr : t.req.wr = false) :
    s.takeReadBeat = (s.clearAnswer.routeRead t.addr).arbitrate := by
  simp only [takeReadBeat, Hpi.nextBeat, ht, hwr, hbeat, and_self, if_true]

/-- Settles O43: a request by whether a transaction is in progress, a beat by whether it is the next. -/
theorem hostRequestIsTakenOrWaits : Obligations.HostRequestIsTakenOrWaits := by
  unfold Obligations.HostRequestIsTakenOrWaits
  intro adr wr cnt wd be s hr
  refine ⟨fun hfree => ?taken, fun hbusy => ?waits, fun hnot => ?write, fun hnot => ?read⟩
  case taken =>
    rw [exec_hostTransactionRequest adr wr cnt hr, State.takeRequestFromHost, hfree]
    rfl
  case waits =>
    obtain ⟨t, ht⟩ := Option.ne_none_iff_exists'.mp hbusy
    rw [exec_hostTransactionRequest adr wr cnt hr, State.takeRequestFromHost, ht]
    rfl
  case write => rw [exec_hostWriteBeat wd be hr, State.takeWriteBeat, Hpi.nextBeat_eq_none hnot]
  case read => rw [exec_hostReadBeat hr, State.takeReadBeat, Hpi.nextBeat_eq_none hnot]

/-! ## The routes of a beat (Table 5-1) -/

section
variable (hr : s.resetn = true) (ht : s.hpi.txn = some t) (hbeat : t.beat = .waiting)
include hr ht hbeat

/-- R104: a write beat is what its route leaves, then the arbiter's grant. -/
theorem exec_hostWriteBeat_of_route {wd : Word} {be : BitVec 4} {u : State} (hwr : t.req.wr = true)
    (hroute : s.clearAnswer.routeWrite t.addr wd be = u) : exec (.hostWriteBeat wd be) s = .next u.arbitrate := by
  rw [exec_hostWriteBeat wd be hr, State.takeWriteBeat_waiting wd be ht hbeat hwr, hroute]

/-- R104: a read beat is what its route leaves, then the arbiter's grant. -/
theorem exec_hostReadBeat_of_route {u : State} (hwr : t.req.wr = false) (hroute : s.clearAnswer.routeRead t.addr = u) :
    exec .hostReadBeat s = .next u.arbitrate := by
  rw [exec_hostReadBeat hr, State.takeReadBeat_waiting ht hbeat hwr, hroute]

end

theorem not_beyond {a : Nat} (ha : a ≤ 0xFFFFFC) : ¬Config.lastWordAddress < a := not_lt.mpr ha

/-- R6, R105: a write beat of no window, or of one that is FREE or IDLE, passes. -/
theorem State.routeWrite_passed {a : Nat} (wd : Word) (be : BitVec 4) (ha : a ≤ 0xFFFFFC)
    (hidle : ∀ w, s.windowAt a = some w → (s.win w).isIdle = true) : s.routeWrite a wd be = s.passWrite a wd be := by
  rw [routeWrite, if_neg (not_beyond ha)]
  split
  next => rfl
  next w hw =>
    specialize hidle w hw
    split
    next => rfl
    next => rfl
    next hwin => cases hwin ▸ hidle
    next hwin => cases hwin ▸ hidle

/-- R6, R105: a read beat of no window, or of one that is FREE or IDLE, takes nothing from the store. -/
theorem State.routeRead_passed {a : Nat} (ha : a ≤ 0xFFFFFC)
    (hidle : ∀ w, s.windowAt a = some w → (s.win w).isIdle = true) : s.routeRead a = s.readStaged a noLanes := by
  rw [routeRead, if_neg (not_beyond ha)]
  split
  next => rfl
  next w hw =>
    specialize hidle w hw
    split
    next => rfl
    next => rfl
    next hwin => cases hwin ▸ hidle
    next hwin => cases hwin ▸ hidle

/-- R113: a read beat of a CAPTURING or RETIRING window takes what is staged. -/
theorem State.routeRead_staged {a : Nat} {w : WindowNo} (ha : a ≤ 0xFFFFFC) (hat : s.windowAt a = some w)
    (hidle : (s.win w).isIdle = false) (hfree : (s.win w).isFree = false) : s.routeRead a = s.readStaged a (s.stagedLanes w a) := by
  rw [routeRead, if_neg (not_beyond ha), hat]
  dsimp only
  split
  next hwin => cases hwin ▸ hfree
  next hwin => cases hwin ▸ hidle
  next => rfl
  next => rfl

/-- R109: a write beat of a RETIRING window is held. -/
theorem State.routeWrite_retiring {a : Nat} {w : WindowNo} {d e held q} (wd : Word) (be : BitVec 4) (ha : a ≤ 0xFFFFFC)
    (hat : s.windowAt a = some w) (hwin : s.win w = .retiring d e held q) : s.routeWrite a wd be = s.hold w a wd be .retire := by
  rw [routeWrite, if_neg (not_beyond ha), hat]
  simp only [hwin]

theorem State.routeWrite_beyond {a : Nat} (wd : Word) (be : BitVec 4) (ha : 0xFFFFFC < a) :
    s.routeWrite a wd be = s.answerBeat true none := if_pos ha

theorem State.routeRead_beyond {a : Nat} (ha : 0xFFFFFC < a) : s.routeRead a = s.readBeyond := if_pos ha

/-- R115: a change of the host port interface alone leaves nothing to grant. -/
theorem State.setHpi_arbitrate (hport : s.PortSettled) (h : Hpi) : (s.setHpi h).arbitrate = { s with hpi := h } :=
  State.arbitrate_settled _ hport

/-- R115: the host port interface changed and its request joined, at a settled port. -/
theorem State.setHpi_requestHost_arbitrate (hport : s.PortSettled) (h : Hpi) (x : PortTxn) :
    ((s.setHpi h).requestHost x).arbitrate = { s with hpi := h, mpa := s.mpa.withHostRequest x } :=
  State.requestHost_arbitrate _ x hport

/-- R105, R115: a write passed to memory at a settled port. -/
theorem State.passWrite_arbitrate (a : Nat) (wd : Word) (be : BitVec 4) (hport : s.PortSettled) (ht : s.hpi.txn = some t) :
    (s.passWrite a wd be).arbitrate =
      { s with hpi := { s.hpi with txn := some { t with beat := .writing } }, mpa := s.mpa.withHostRequest (.hostWrite a be wd) } := by
  rw [passWrite, s.setBeat_eq t _ ht, State.setHpi_requestHost_arbitrate hport]

/-- R113, R115: a read that memory must answer, at a settled port. -/
theorem State.readStaged_of_not_full {a : Nat} {l : Lanes} (hl : fullLanes l = false) (hport : s.PortSettled)
    (ht : s.hpi.txn = some t) :
    (s.clearAnswer.readStaged a l).arbitrate =
      { s with hpi := s.hpi.withBeat t (.reading l), mpa := s.mpa.withHostRequest (.hostRead a) } := by
  rw [readStaged, if_neg (Bool.not_eq_true _ ▸ hl), s.clearAnswer_setBeat t _ ht,
    State.setHpi_requestHost_arbitrate hport]

/-- R6: the window that an address finds holds it. -/
theorem State.contains_of_windowAt {a : Nat} {w : WindowNo} (h : s.windowAt a = some w) : (s.win w).contains a = true :=
  List.find?_some (p := fun w => (s.win w).contains a) h

/-- Settles O44: the beat passes by its route, and its request joins the settled port. -/
theorem passedBeatsGoToMemory : Obligations.PassedBeatsGoToMemory := by
  unfold Obligations.PassedBeatsGoToMemory
  intro wd be t s hr hport ht hbeat a ha hidle
  have hpass : ∀ w, s.clearAnswer.windowAt a = some w → (s.clearAnswer.win w).isIdle = true := fun w hw =>
    hidle w (State.contains_of_windowAt hw)
  refine ⟨fun hwr => ?_, fun hwr => ?_⟩
  · rw [exec_hostWriteBeat_of_route hr ht hbeat hwr (State.routeWrite_passed wd be ha hpass),
      State.passWrite_arbitrate (s := s.clearAnswer) _ wd be hport ht]
    rfl
  · rw [exec_hostReadBeat_of_route hr ht hbeat hwr (State.routeRead_passed ha hpass),
      State.readStaged_of_not_full (by decide) hport ht]
    rfl

/-- Settles O47: a RETIRING window holds the write, and beyond the last word there is only the answer. -/
theorem retiringAndBeyondTheEnd : Obligations.RetiringAndBeyondTheEnd := by
  unfold Obligations.RetiringAndBeyondTheEnd
  intro wd be t s hr hport ht hbeat a
  refine ⟨fun w d e held q hat hwin hwr ha => ?held, fun ha hwr => ?write, fun ha hwr => ⟨Config.freeReadWord s.freeIndex, ?read⟩⟩
  case held =>
    rw [exec_hostWriteBeat_of_route hr ht hbeat hwr (State.routeWrite_retiring (s := s.clearAnswer) wd be ha hat hwin), State.hold,
      s.clearAnswer_setBeat t _ ht, State.setHpi_arbitrate hport]
    rfl
  case write =>
    rw [exec_hostWriteBeat_of_route hr ht hbeat hwr (State.routeWrite_beyond wd be ha), s.clearAnswer_answerBeat t _ _ ht,
      State.setHpi_arbitrate hport]
  case read =>
    rw [exec_hostReadBeat_of_route hr ht hbeat hwr (State.routeRead_beyond ha), State.readBeyond, s.clearAnswer_answerBeat t _ _ ht]
    exact congrArg Host.Outcome.next (State.arbitrate_settled (State.setFreeIndex (s.setHpi _) _) hport)

/-! ## Reads (R113) -/

/-- The byte of a word built of four bytes. -/
theorem extractLsb'_wordOf (b : Fin 4 → Byte) (k : Fin 4) :
    (wordOf (b 3) (b 2) (b 1) (b 0)).extractLsb' (8 * k.val) 8 = b k := by
  apply BitVec.eq_of_toNat_eq
  simp only [wordOf, toNat_append_eq, BitVec.extractLsb'_toNat, Nat.shiftRight_eq_div_pow]
  have h3 := (b 3).isLt
  have h2 := (b 2).isLt
  have h1 := (b 1).isLt
  have h0 := (b 0).isLt
  match k with
  | 0 => simp; omega
  | 1 => simp; omega
  | 2 => simp; omega
  | 3 => simp; omega

/-- R113: a read's word, lane by lane. -/
theorem extractLsb'_mergeRead (l : Lanes) (mem : Word) (k : Fin 4) :
    (mergeRead l mem).extractLsb' (8 * k.val) 8 = l[k].getD (mem.extractLsb' (8 * k.val) 8) :=
  extractLsb'_wordOf (fun k => l[k].getD (byteOf mem k.val)) k

theorem fullLanes_iff (l : Lanes) : fullLanes l = true ↔ ∀ k : Fin 4, (l[k]).isSome = true := by
  rw [fullLanes, List.all_eq_true]
  constructor
  · exact fun h k => h _ (by simp)
  · intro h x hx
    obtain ⟨i, hi, rfl⟩ := Vector.mem_iff_getElem.mp (Vector.mem_toList_iff.mp hx)
    exact h ⟨i, hi⟩

/-- R113: the word of four staged bytes is made of them alone. -/
theorem mergeRead_of_bytes {l : Lanes} {v : Word} (h : ∀ k : Fin 4, l[k] = some (byteOf v k.val)) (mem : Word) :
    mergeRead l mem = v := by
  have h0 : l[0] = some (byteOf v 0) := h 0
  have h1 : l[1] = some (byteOf v 1) := h 1
  have h2 : l[2] = some (byteOf v 2) := h 2
  have h3 : l[3] = some (byteOf v 3) := h 3
  rw [mergeRead, h0, h1, h2, h3]
  exact wordOf_bytesOf v

theorem State.stagedLanes_getElem (s : State) (w : WindowNo) (a : Nat) (k : Fin 4) :
    (s.stagedLanes w a)[k] = s.newestByte w (a + k.val) := by
  simp [stagedLanes]

/-- Settles O48: by whether all four bytes are staged. -/
theorem readsTakeStagedBytes : Obligations.ReadsTakeStagedBytes := by
  unfold Obligations.ReadsTakeStagedBytes
  intro t w s hr hport ht hbeat hwr a ha hat hidle hfree
  have hexec := exec_hostReadBeat_of_route hr ht hbeat hwr (State.routeRead_staged (s := s.clearAnswer) ha hat hidle hfree)
  refine ⟨fun v hv => ?full, fun ⟨k, hk⟩ => ?lacking⟩
  case full =>
    have hlanes (k : Fin 4) : (s.clearAnswer.stagedLanes w t.addr)[k] = some (byteOf v k.val) :=
      (State.stagedLanes_getElem _ w _ k).trans (hv k)
    have hfull : fullLanes (s.clearAnswer.stagedLanes w t.addr) = true := (fullLanes_iff _).mpr fun k => by rw [hlanes]; rfl
    rw [hexec, State.readStaged, if_pos hfull, mergeRead_of_bytes hlanes, s.clearAnswer_answerBeat t _ _ ht,
      State.setHpi_arbitrate hport]
  case lacking =>
    have hpartial : fullLanes (s.clearAnswer.stagedLanes w t.addr) = false := by
      rw [Bool.eq_false_iff, ne_eq, fullLanes_iff]
      intro hall
      have hsome := hall k
      rw [State.stagedLanes_getElem] at hsome
      rw [show s.clearAnswer.newestByte w (t.addr + k.val) = none from hk] at hsome
      cases hsome
    rw [hexec, State.readStaged_of_not_full hpartial hport ht]
    rfl

end Sys2Proof.Machine
end

section
/-! The PASS issue, the ends of a held beat, memory's answers to the host path, and the lookups of the host path. -/

namespace Sys2Proof.Machine

variable {s : State} {t : HostTransaction}

/-! ## The issue of a PASS write (R37, R107, R116) -/

/-- R116: a beat whose line the interlock does not name is issued. -/
theorem State.tryIssue_of_free {p : PassBeat} (ht : s.hpi.txn = some t) (hp : t.beat = .atInterlock p)
    (hline : s.mpa.interlock ≠ some (lineOf p.addr)) : s.tryIssue = s.issuePass p := by
  simp only [tryIssue, ht, hp, if_neg hline]

theorem State.tryIssue_of_none (hnone : ∀ t p, s.hpi.txn = some t → t.beat ≠ .atInterlock p) : s.tryIssue = s := by
  unfold tryIssue
  split
  next t ht =>
    split
    next p hp => exact absurd hp (hnone t p ht)
    next => rfl
  next => rfl

/-- R37: the update of a slot's bytes, byte by byte. -/
theorem passCells_beatLanes (cs : Cells) (wd : Word) (be : BitVec 4) (off : Nat) :
    passCells cs off (beatLanes wd be) =
      Vector.ofFn fun i =>
        if (off ≤ i.val ∧ be.getLsbD (i.val - off) = true) ∧ cs[i].isSome = true then some (byteOf wd (i.val - off)) else cs[i] := by
  unfold passCells
  congr 1
  funext i
  rw [laneAt_beatLanes]
  cases hcell : cs[i] <;> cases hstrobe : strobedAt be off i.val <;> simp_all [strobedAt]

/-- R37: the PASS update, slot by slot. -/
theorem passUpdate_eq (p : PassBeat) (slots : List Slot) :
    passUpdate p.window p.addr p.wd p.be slots = slots.map fun x =>
      if x.window = p.window ∧ x.line = lineOf p.addr then { x with cells := passCells x.cells (offsetOf p.addr) (beatLanes p.wd p.be) }
      else x := by
  simp only [passUpdate, changeSlots, Bool.and_eq_true, decide_eq_true_eq]

/-- A flag set on an open group, in the window table. -/
theorem State.markGroup_windows (s : State) (w : WindowNo) (f : GroupFlags → GroupFlags) :
    (s.markGroup w f).windows =
      match s.win w with
      | .capturing d e held g => s.windows.set w.val (.capturing d e held { g with flags := f g.flags }) w.isLt
      | _ => s.windows := by
  have hself : s.windows.set w.val (s.win w) w.isLt = s.windows := Vector.set_getElem_self ..
  show s.windows.set w.val ((s.win w).markGroup f) w.isLt = _
  generalize s.win w = entry at hself ⊢
  cases entry with
  | capturing d e held g => rfl
  | free => exact hself
  | idle d e => exact hself
  | retiring d e held q => exact hself

/-- Settles O49: at the interlock nothing happens; off it the update, the flag, the event and the request are the issue's. -/
theorem passWriteIssueUpdatesTheCopies : Obligations.PassWriteIssueUpdatesTheCopies := by
  unfold Obligations.PassWriteIssueUpdatesTheCopies
  intro s hr hport
  refine ⟨?atInterlock, fun hnone => ?nothing⟩
  case nothing => rw [exec_passWriteIssue hr, State.tryIssue_of_none hnone, s.arbitrate_settled hport]
  intro t p ht hp line off
  refine ⟨fun hline => ?waits, fun hline => ?issued⟩
  case waits => rw [exec_passWriteIssue hr, State.tryIssue_of_interlock ht hp hline, s.arbitrate_settled hport]
  case issued =>
    let u : State :=
      ((s.setSlots (passUpdate p.window p.addr p.wd p.be s.slots)).markGroup p.window GroupFlags.setBypassed).setEvent .writeBypassed
    have hissue : s.issuePass p = u.passWrite p.addr p.wd p.be := rfl
    have hwindows : u.windows = _ := State.markGroup_windows (s.setSlots _) p.window _
    have hslots : u.slots = _ := passUpdate_eq p s.slots
    simp only [passCells_beatLanes] at hslots
    rw [exec_passWriteIssue hr, State.tryIssue_of_free ht hp hline, hissue, State.passWrite_arbitrate (s := u) _ _ _ hport ht, hwindows,
      hslots] <;> rfl

/-! ## The ends of a held beat (R46, R110, R111) -/

theorem exec_heldBeatRelease (hr : s.resetn = true) : exec .heldBeatRelease s = .next s.releaseHeld.arbitrate :=
  whenReleased_of_resetn (fun s => s.releaseHeld.arbitrate) hr

/-- R30, R31: staging leaves the host port and the memory port. -/
theorem State.stage_ports {w : WindowNo} {a : Nat} {wd : Word} {be : BitVec 4} {u : State} (hu : s.stage w a wd be = some u) :
    u.hpi = s.hpi ∧ u.mpa = s.mpa := by
  unfold stage at hu
  split at hu
  next =>
    split at hu
    next => cases hu; exact ⟨rfl, rfl⟩
    next =>
      split at hu
      next => cases hu; exact ⟨rfl, rfl⟩
      next => cases hu
  next => cases hu

section
variable {h : HeldBeat} (hh : s.hpi.held = some h)
include hh

/-- R46: a STALL beat re-offered to a CAPTURING window. -/
theorem State.retryHeld_capturing {d e n g} (hreason : h.reason = .stall) (hwin : s.win h.window = .capturing d e n g) :
    s.retryHeld =
      match s.stage h.window h.addr h.wd h.be with
      | some t => t.answerBeat false none
      | none => s := by
  simp only [retryHeld, hh, hreason, hwin] <;> rfl

theorem State.retryHeld_retiring {d e n q} (hreason : h.reason = .stall) (hwin : s.win h.window = .retiring d e n q) :
    s.retryHeld = s.setBeat (.held { h with reason := .retire }) := by
  simp only [retryHeld, hh, hreason, hwin]

theorem State.retryHeld_idle (hreason : h.reason = .stall) (hidle : (s.win h.window).isIdle = true) :
    s.retryHeld = s.passWrite h.addr h.wd h.be := by
  simp only [retryHeld, hh, hreason]
  cases hwin : s.win h.window with
  | idle d e => rfl
  | free => cases hwin ▸ hidle
  | capturing d e n g => cases hwin ▸ hidle
  | retiring d e n q => cases hwin ▸ hidle

theorem State.retryHeld_unmoved (hstays : h.reason = .retire ∨ s.win h.window = .free) : s.retryHeld = s := by
  rcases hstays with hreason | hwin
  · simp only [retryHeld, hh, hreason]
  · cases hreason : h.reason <;> simp only [retryHeld, hh, hreason, hwin]

theorem State.releaseHeld_idle (hidle : (s.win h.window).isIdle = true) : s.releaseHeld = s.passWrite h.addr h.wd h.be := by
  simp only [releaseHeld, hh, if_pos hidle]

theorem State.releaseHeld_not_idle (hidle : (s.win h.window).isIdle = false) : s.releaseHeld = s := by
  simp only [releaseHeld, hh, hidle, Bool.false_eq_true, if_false]

theorem State.expireStall_capturing (hcap : (s.win h.window).isCapturing = true) :
    s.expireStall =
      (((s.answerBeat true none).setEvent .stallTimeout).markGroup h.window GroupFlags.setLost).setEvent .writeLost := by
  simp only [expireStall, hh, if_pos hcap]

theorem State.expireStall_not_capturing (hcap : (s.win h.window).isCapturing = false) :
    s.expireStall = (s.answerBeat true none).setEvent .stallTimeout := by
  simp only [expireStall, hh, hcap, Bool.false_eq_true, if_false]

end

/-- Table 9-1: STALL_TIMEOUT and WRITE_LOST together. -/
theorem with_stallTimeout_writeLost (events : EventSet) :
    EventSet.with (EventSet.with events .stallTimeout) .writeLost = events ||| 0x028#11 :=
  (BitVec.or_assoc ..).trans (congrArg (events ||| ·) (by decide))

/-- Settles O50: retry, release and expiry by the reason and the window's state. -/
theorem heldBeatsEnd : Obligations.HeldBeatsEnd := by
  unfold Obligations.HeldBeatsEnd
  intro s hr hport
  have hretry {u : State} (hu : s.retryHeld = u) (hsettled : u.PortSettled) : exec .heldBeatRetry s = .next u := by
    rw [exec_heldBeatRetry hr, hu, u.arbitrate_settled hsettled]
  have hrelease {u : State} (hu : s.releaseHeld = u) (hsettled : u.PortSettled) : exec .heldBeatRelease s = .next u := by
    rw [exec_heldBeatRelease hr, hu, u.arbitrate_settled hsettled]
  refine ⟨?held, fun hnone => ?unheld⟩
  case unheld =>
    refine ⟨hretry ?_ hport, hrelease ?_ hport, ?_⟩
    · rw [State.retryHeld, hnone]
    · rw [State.releaseHeld, hnone]
    · rw [exec_stallLimitExpiry hr, State.expireStall, hnone]
  case held =>
    intro t h ht hbeat passed
    have hh := Hpi.held_of_beat ht hbeat
    have hpassed : (s.passWrite h.addr h.wd h.be).arbitrate = passed := State.passWrite_arbitrate _ _ _ hport ht
    refine ⟨fun hstays => ?unmoved, fun hreason hidle => ?idle, fun d e n q hwin hreason => ?retiring,
      fun d e n g hwin hreason => ⟨fun u hu => ?staged, fun hu => ?unstaged⟩, fun hidle => ?released, fun hidle => ?notReleased,
      fun d e n g hwin => ?lost, fun hcap => ?timedOut⟩
    case unmoved => exact hretry (State.retryHeld_unmoved hh hstays) hport
    case idle => rw [exec_heldBeatRetry hr, State.retryHeld_idle hh hreason hidle, hpassed]
    case retiring => exact hretry ((State.retryHeld_retiring hh hreason hwin).trans (s.setBeat_eq t _ ht)) hport
    case staged =>
      obtain ⟨hhpi, hmpa⟩ := State.stage_ports hu
      have hanswered : u.answerBeat false none = { u with hpi := s.hpi.afterBeat t { err := false, data := none } } := by
        rw [u.answerBeat_eq t _ _ (hhpi ▸ ht), hhpi]
        rfl
      refine hretry ?_ (fun hfree => hmpa ▸ hport (hmpa ▸ hfree))
      rw [State.retryHeld_capturing hh hreason hwin, hu]
      exact hanswered
    case unstaged => exact hretry (by rw [State.retryHeld_capturing hh hreason hwin, hu]) hport
    case released => rw [exec_heldBeatRelease hr, State.releaseHeld_idle hh hidle, hpassed]
    case notReleased => exact hrelease (State.releaseHeld_not_idle hh hidle) hport
    case lost =>
      rw [exec_stallLimitExpiry hr, State.expireStall_capturing hh (by rw [hwin]; rfl), s.answerBeat_eq t _ _ ht, State.markGroup]
      simp only [State.setEvent_win, State.setHpi_win, hwin]
      rw [← with_stallTimeout_writeLost]
      rfl
    case timedOut =>
      rw [exec_stallLimitExpiry hr, State.expireStall_not_capturing hh hcap, s.answerBeat_eq t _ _ ht]
      rfl

/-! ## Memory's answers to the host path (R105, R107, R113 to R115) -/

theorem exec_memoryBeatAnswer (err : Bool) (rd : Word) (hr : s.resetn = true) :
    exec (.memoryBeatAnswer err rd) s = .next (s.memoryAnswer err rd) :=
  whenReleased_of_resetn (fun s => s.memoryAnswer err rd) hr

/-- R114, R115: the host beat answered, and the port free for the next grant. -/
theorem State.answerBeat_nextGrant (ht : s.hpi.txn = some t) (err : Bool) (data : Option Word) :
    ((s.setMpa { s.mpa with port := none }).answerBeat err data).arbitrate =
      { s with hpi := s.hpi.afterBeat t { err := err, data := data }, mpa := s.mpa.nextGrant } := by
  rw [State.answerBeat_eq (s.setMpa { s.mpa with port := none }) t _ _ ht, ← Mpa.free_arbitrate s.mpa]
  rfl

/-- Settles O51: by what the port carries; the word of a read is merged lane by lane. -/
theorem memoryAnswersTheHostBeat : Obligations.MemoryAnswersTheHostBeat := by
  unfold Obligations.MemoryAnswersTheHostBeat
  intro err rd t s hr
  refine ⟨fun hport => ?none, fun a be wd hport ht hbeat => ?write,
    fun a staged hport ht hbeat => ⟨mergeRead staged rd, extractLsb'_mergeRead staged rd, ?read⟩⟩
  case none => rw [exec_memoryBeatAnswer err rd hr, State.memoryAnswer, hport]
  case write =>
    rw [← State.answerBeat_nextGrant ht, exec_memoryBeatAnswer err rd hr, State.memoryAnswer, hport]
    simp only [State.answerFromMemory, State.setMpa_hpi, ht, hbeat]
  case read =>
    rw [← State.answerBeat_nextGrant ht, exec_memoryBeatAnswer err rd hr, State.memoryAnswer, hport]
    simp only [State.answerFromMemory, State.setMpa_hpi, ht, hbeat]

/-! ## Lookups (R3, R4, R6, R15, R40) -/

/-- R3, R4: an address of a window lies in its span. -/
theorem Geometry.span_of_contains {g : Geometry} {a : Nat} (h : g.contains a = true) : g.span.1 ≤ a ∧ a ≤ g.span.2 := by
  cases g with
  | linear base length => simpa [contains, span] using h
  | rect base pitch width height =>
    simp only [contains, Bool.and_eq_true, decide_eq_true_eq] at h
    obtain ⟨⟨hbase, hrow⟩, hcol⟩ := h
    refine ⟨hbase, ?_⟩
    have hrows : (a - base) / pitch * pitch ≤ (height - 1) * pitch := Nat.mul_le_mul_right _ (by omega)
    have hsplit := Nat.div_add_mod' (a - base) pitch
    show a ≤ base + (height - 1) * pitch + width - 1
    omega

/-- R6: membership of an entry is membership of its geometry. -/
theorem WindowEntry.contains_iff (e : WindowEntry) (a : Nat) :
    e.contains a = true ↔ ∃ d ∈ e.definition, d.geometry.contains a = true := by
  unfold contains
  cases e.definition <;> simp

/-- R11: with the spans apart an address is in one window at most. -/
theorem State.window_unique (hs : s.SpansDisjoint) {w v : WindowNo} {a : Nat} (hw : (s.win w).contains a = true)
    (hv : (s.win v).contains a = true) : w = v := by
  by_contra hne
  obtain ⟨d, hd, ha⟩ := ((s.win w).contains_iff a).mp hw
  obtain ⟨d', hd', ha'⟩ := ((s.win v).contains_iff a).mp hv
  obtain ⟨hlo, hhi⟩ := Geometry.span_of_contains ha
  obtain ⟨hlo', hhi'⟩ := Geometry.span_of_contains ha'
  have hapart := hs w v hne d hd d' hd'
  rw [spansMeet, decide_eq_true (hlo.trans hhi'), decide_eq_true (hlo'.trans hhi)] at hapart
  cases hapart

/-- R6: the lookup finds exactly the window that holds the address. -/
theorem State.windowAt_iff (hs : s.SpansDisjoint) (w : WindowNo) (a : Nat) : s.windowAt a = some w ↔ (s.win w).contains a = true := by
  refine ⟨State.contains_of_windowAt, fun hw => ?_⟩
  have hsome : (s.windowAt a).isSome = true := List.find?_isSome.mpr ⟨w, mem_allWindows w, hw⟩
  obtain ⟨v, hv⟩ := Option.isSome_iff_exists.mp hsome
  rw [hv, State.window_unique hs hw (State.contains_of_windowAt hv)]

/-- R40: the copy of a byte in the slot of one epoch, if the store has that slot. -/
theorem findSlot_cell (slots : List Slot) (w : WindowNo) (e : Epoch) (a : Nat) :
    (match findSlot slots w e (lineOf a) with
      | some x => cellAt x.cells (offsetOf a)
      | none => none) =
    (slots.find? fun x => x.window = w && x.epoch = e && x.line = a / 32 * 32).bind fun x =>
      x.cells[a % 32]'(Nat.mod_lt a (by decide)) := by
  show _ = (findSlot slots w e (lineOf a)).bind _
  cases findSlot slots w e (lineOf a) with
  | none => rfl
  | some x => exact dif_pos (Nat.mod_lt a (by decide))

/-- R15, R40: the newest staged copy, by key lookup epoch by epoch. -/
theorem State.newestByte_eq (s : State) (w : WindowNo) (a : Nat) :
    s.newestByte w a = (s.epochsNewestFirst w).findSome? fun e =>
      (s.slots.find? fun x => x.window = w && x.epoch = e && x.line = a / 32 * 32).bind fun x =>
        x.cells[a % 32]'(Nat.mod_lt a (by decide)) :=
  congrArg (List.findSome? · (s.epochsNewestFirst w)) (funext fun e => findSlot_cell s.slots w e a)

/-- Settles O52: membership with the spans apart, and the first copy in the order of the epochs. -/
theorem lookupsFindTheWindowAndTheNewestByte : Obligations.LookupsFindTheWindowAndTheNewestByte := by
  unfold Obligations.LookupsFindTheWindowAndTheNewestByte
  intro w a b s
  refine ⟨fun hs => ?window, ?byte⟩
  case window =>
    rw [State.windowAt_iff hs, WindowEntry.contains_iff]
    refine exists_congr fun d => and_congr_right fun _ => ?_
    cases d.geometry <;> simp [Geometry.contains, and_assoc]
  case byte =>
    intro copy epochs
    have hepochs : s.epochsNewestFirst w = epochs := by
      rw [State.epochsNewestFirst, queueGroups_epochs, ← List.filterMap_reverse]
      rfl
    rw [State.newestByte_eq, hepochs]
    exact List.findSome?_eq_some_iff

end Sys2Proof.Machine
end

section
/-! Windows and the command path: WIN_START, WIN_RELEASE, WIN_QUERY, RESYNC and WIPE, and the requests that wait behind a WIPE. -/

namespace Sys2Proof.Machine

variable {s : State}

/-! ## WIN_START and WIN_RELEASE (R13, R20) -/

theorem requestWinStart_of_owner {ch : Channel} {a : Byte} {w : WindowNo} (hw : w.val = a.toNat)
    (ho : (s.win w).ownedByOther ch = true) : requestWinStart ch (.short a) s = (s, .nak .owner) := by
  rw [requestWinStart, windowForm_of_eq hw, if_pos ho]

theorem requestWinRelease_of_owner {ch : Channel} {a : Byte} {w : WindowNo} (hw : w.val = a.toNat)
    (ho : (s.win w).ownedByOther ch = true) : requestWinRelease ch (.short a) s = (s, .nak .owner) := by
  rw [requestWinRelease, windowForm_of_eq hw, if_pos ho]

section
variable {ch : Channel} {a : Byte} {w : WindowNo} (hw : w.val = a.toNat) (ho : (s.win w).ownedByOther ch = false)
include hw ho

theorem requestWinStart_of_state (hidle : ∀ d e, s.win w ≠ .idle d e) : requestWinStart ch (.short a) s = (s, .nak .state) := by
  rw [requestWinStart, windowForm_of_eq hw, ho, if_neg Bool.false_ne_true]
  split
  next d e h => exact absurd h (hidle d e)
  next => rfl

theorem requestWinRelease_of_state (hidle : ∀ d e, s.win w ≠ .idle d e) :
    requestWinRelease ch (.short a) s = (s, .nak .state) := by
  rw [requestWinRelease, windowForm_of_eq hw, ho, if_neg Bool.false_ne_true]
  split
  next d e h => exact absurd h (hidle d e)
  next => rfl

theorem requestWinStart_of_idle {d : WindowDef} {e : Epoch} (hidle : s.win w = .idle d e) :
    requestWinStart ch (.short a) s = (s.setWin w (.capturing d e 0 newGroup), .ack) := by
  rw [requestWinStart, windowForm_of_eq hw, ho, if_neg Bool.false_ne_true, hidle]

theorem requestWinRelease_of_idle {d : WindowDef} {e : Epoch} (hidle : s.win w = .idle d e) :
    requestWinRelease ch (.short a) s = (s.setWin w .free, .ack) := by
  rw [requestWinRelease, windowForm_of_eq hw, ho, if_neg Bool.false_ne_true, hidle]

end

/-- Settles O34: the two requests, check by check. -/
theorem winStartAndWinRelease : Obligations.WinStartAndWinRelease := by
  unfold Obligations.WinStartAndWinRelease
  intro ch tag a s hs
  have hstart {r : State × Reply} (h : requestWinStart ch (.short a) s = r) :
      exec (.winStart ch tag (.short a)) s = .next (r.1.answered ch tag r.2) := exec_request_of_reply .winStart ch tag rfl hs h
  have hrelease {r : State × Reply} (h : requestWinRelease ch (.short a) s = r) :
      exec (.winRelease ch tag (.short a)) s = .next (r.1.answered ch tag r.2) := exec_request_of_reply .winRelease ch tag rfl hs h
  refine ⟨fun ha => ⟨hstart (windowForm_of_gt ha s _), hrelease (windowForm_of_gt ha s _)⟩, fun w hw => ⟨fun ho => ?owner,
    fun ho hidle => ?state, fun d e hidle ho => ?idle⟩⟩
  case owner =>
    have hother := (WindowEntry.ownedByOther_iff ch (s.win w)).mpr ho
    exact ⟨hstart (requestWinStart_of_owner hw hother), hrelease (requestWinRelease_of_owner hw hother)⟩
  case state =>
    have hown := (WindowEntry.ownedByOther_eq_false ch (s.win w)).mpr ho
    exact ⟨hstart (requestWinStart_of_state hw hown hidle), hrelease (requestWinRelease_of_state hw hown hidle)⟩
  case idle =>
    have hown : (s.win w).ownedByOther ch = false := by
      rw [WindowEntry.ownedByOther_eq_false, hidle]
      rintro d' ⟨⟩
      exact ho
    exact ⟨hstart (requestWinStart_of_idle hw hown hidle), hrelease (requestWinRelease_of_idle hw hown hidle)⟩

/-! ## WIN_QUERY (R21, Table 8-11) -/

/-- Table 8-11: the fields of word 0 do not overlap. -/
theorem queryWord0_toNat (w : WindowNo) (state : BitVec 4) (f : GroupFlags) (e : Epoch) (owner : Channel) (shape policy mode : BitVec 2) :
    (BitVec.ofNat 8 w.val ++ state ++ 0#2 ++ BitVec.ofBool f.writeBypassed ++ BitVec.ofBool f.writeLost ++ e ++
        BitVec.ofNat 2 owner.val ++ shape ++ policy ++ mode).toNat =
      w.val * 2 ^ 24 + state.toNat * 2 ^ 20 + f.writeBypassed.toNat * 2 ^ 17 + f.writeLost.toNat * 2 ^ 16 + e.toNat * 2 ^ 8 +
        owner.val * 2 ^ 6 + shape.toNat * 2 ^ 4 + policy.toNat * 2 ^ 2 + mode.toNat := by
  have hw : w.val % 2 ^ 8 = w.val := Nat.mod_eq_of_lt (w.isLt.trans (by decide))
  have ho : owner.val % 2 ^ 2 = owner.val := Nat.mod_eq_of_lt (owner.isLt.trans_le (by decide))
  simp only [toNat_append_eq, BitVec.toNat_ofNat, BitVec.toNat_ofBool, hw, ho]
  ring

/-- A word of two halves. -/
theorem halves_toNat (a b : Nat) : (BitVec.ofNat 16 a ++ BitVec.ofNat 16 b).toNat = a % 2 ^ 16 * 2 ^ 16 + b % 2 ^ 16 := by
  rw [toNat_append_eq, BitVec.toNat_ofNat, BitVec.toNat_ofNat]

theorem FullPolicy.code_toNat (p : FullPolicy) : p.code.toNat = match p with
    | .stall => 1
    | .pass => 2
    | .drop => 3 := by
  cases p <;> rfl

theorem DrainMode.code_toNat (m : DrainMode) : m.code.toNat = match m with
    | .strict => 1
    | .span => 2 := by
  cases m <;> rfl

/-- Settles O35: the words of the entry, number by number. -/
theorem winQueryReportsTheEntry : Obligations.WinQueryReportsTheEntry := by
  unfold Obligations.WinQueryReportsTheEntry
  intro ch tag a s hs
  refine ⟨fun ha => exec_request_of_reply .winQuery ch tag rfl hs (windowForm_of_gt ha s _), ?_⟩
  intro w hw defined
  refine ⟨(s.win w).toWords w, exec_request_of_reply .winQuery ch tag rfl hs (windowForm_of_eq hw s _), ?_⟩
  have hdefined (state : BitVec 4) (f : GroupFlags) (e : Epoch) (d : WindowDef) :
      (definedWords w state f e d).map BitVec.toNat = defined state.toNat f.writeBypassed.toNat f.writeLost.toNat e d := by
    unfold definedWords
    cases hgeometry : d.geometry with
    | linear base length =>
      simp only [List.map_cons, List.map_nil, queryWord0_toNat, FullPolicy.code_toNat, DrainMode.code_toNat, halves_toNat,
        BitVec.toNat_ofNat, defined, hgeometry, Geometry.code, Nat.zero_mod, Nat.zero_mul, Nat.zero_add] <;> rfl
    | rect base pitch width height =>
      simp only [List.map_cons, List.map_nil, queryWord0_toNat, FullPolicy.code_toNat, DrainMode.code_toNat, halves_toNat,
        BitVec.toNat_ofNat, defined, hgeometry, Geometry.code] <;> rfl
  cases hwin : s.win w with
  | free =>
    have hnumber : (BitVec.ofNat 8 w.val ++ 0#24).toNat = w.val * 2 ^ 24 := by
      rw [toNat_append_eq, BitVec.toNat_ofNat, Nat.mod_eq_of_lt (w.isLt.trans (by decide))]
      exact Nat.add_zero _
    exact congrArg (· :: [0, 0, 0, 0, 0]) hnumber
  | idle d e =>
    rw [WindowEntry.toWords, List.map_append, hdefined]
    rfl
  | capturing d e held g =>
    rw [WindowEntry.toWords, List.map_append, hdefined]
    simp only [List.map_cons, List.map_nil, halves_toNat, Nat.zero_mod, Nat.add_zero] <;> rfl
  | retiring d e held q =>
    have hseq : (0#16 ++ q).toNat = q.toNat := by
      rw [toNat_append_eq, BitVec.toNat_ofNat, Nat.zero_mod, Nat.zero_mul, Nat.zero_add]
    rw [WindowEntry.toWords, List.map_append, hdefined]
    simp only [List.map_cons, List.map_nil, halves_toNat, hseq, Nat.zero_mod, Nat.add_zero] <;> rfl

/-! ## RESYNC and WIPE at a command path at rest (R150, R165) -/

/-- R150: an assembler in a transfer period is one that is not IDLE. -/
theorem Assembler.bne_idle (a : Assembler) : (a != .idle) = decide (a ≠ .idle) := by
  cases a <;> simp

/-- Settles O30: RESYNC drops the FILLED places ahead and fills its own. -/
theorem resyncEmptiesTheQueue : Obligations.ResyncEmptiesTheQueue := by
  unfold Obligations.ResyncEmptiesTheQueue
  intro ch tag a s hs
  have hrest := hs.2.2.1
  refine (exec_commandOf .resync ch tag (.short a) s hs.1).trans (congrArg Host.Outcome.next ?_)
  rw [s.accept_ready _ hs]
  simp only [State.takeRequest, kindOfCode_code, State.execute, State.takeResync, State.setResponses_slc, dropFilled_append _ _ hrest,
    Assembler.bne_idle]
  exact State.runCommands_idle _ _ rfl

/-- R166: WIPE neither reads nor changes the response queue. -/
theorem State.wipeBlocks_setResponses (s : State) (ps : List Place) :
    (s.setResponses ps).wipeBlocks = s.wipeBlocks.setResponses ps := by
  have hframe := s.aside_frame (f := State.wipeBlocks) fun x p => s.wipeBlocks_aside x p
  have haside := s.wipeBlocks_aside { s.slc with responses := ps } s.pending
  have hset : s.wipeBlocks.setResponses ps = s.wipeBlocks.setSlc { s.slc with responses := ps } := by
    rw [State.setResponses, hframe.1]
  rw [hset]
  exact haside.trans (congrArg (State.setPending _) hframe.2.symm)

theorem State.wipeBlocks_slc (s : State) : s.wipeBlocks.slc = s.slc :=
  (s.aside_frame (f := State.wipeBlocks) fun x p => s.wipeBlocks_aside x p).1

/-- R165, R166: WIPE with no line in progress. -/
theorem exec_wipe_ready (ch : Channel) (tag : Tag) (a : Byte) (hs : s.LinkReady) (hline : s.lineInProgress = none) :
    exec (.wipe ch tag (.short a)) s = .next (s.wipeBlocks.answered ch tag (.data [s.wipeCounts])) := by
  obtain ⟨hr, hw, hrest, hlen⟩ := id hs
  let q : Request := .frame { kind := Kind.wipe.code, ch := ch, tag := tag, body := .short a }
  let u := s.setResponses (s.slc.responses ++ [.awaiting q])
  have hslc : u.wipeBlocks.slc = u.slc := u.wipeBlocks_slc
  have htaken : u.takeRequest q = s.wipeBlocks.answered ch tag (.data [s.wipeCounts]) := by
    have hfirst : firstAwaiting u.wipeBlocks.slc.responses = some q := by
      rw [hslc]; exact firstAwaiting_append_awaiting _ _ hrest
    have hfill := State.fill_tail s u.wipeBlocks ch tag (.data [u.wipeCounts]) q (by rw [hslc]; rfl) hrest
    have hflag : s.slc = { s.slc with wipeTaken := false } := by rw [← hw]
    have hnoLine : u.lineInProgress = none := hline
    simp only [State.takeRequest, kindOfCode_code, State.execute, State.takeWipe, hnoLine, q, State.makeWipeEffect, State.fillWipe]
    rw [show firstAwaiting u.wipeBlocks.slc.responses = _ from hfirst]
    simp only [q]
    rw [hfill, State.wipeBlocks_setResponses, State.answered, s.wipeBlocks_slc, State.setResponses, State.setResponses,
      State.setResponses, s.wipeBlocks_slc]
    simp only [State.setSlc_slc, State.setSlc_setSlc, ← hw]
    rfl
  refine (exec_commandOf .wipe ch tag (.short a) s hr).trans (congrArg Host.Outcome.next ?_)
  rw [s.accept_ready _ hs]
  refine (congrArg (State.runCommands _) htaken).trans (State.runCommands_idle _ _ ?_)
  rw [State.answered, s.wipeBlocks_slc]
  exact firstAwaiting_append_filled _ _ hrest

end Sys2Proof.Machine
end

section
/-! What WIPE leaves, and the requests that stand behind one that waits. -/

namespace Sys2Proof.Machine

variable {s : State}

/-! ## The blocks after a WIPE (R71, R117, R124, R166) -/

/-- R117: a WIPE answers a held beat ERROR. -/
def Hpi.wiped (h : Hpi) : Hpi :=
  match h.txn with
  | some x =>
    match x.beat with
    | .held _ => h.afterBeat x { err := true, data := none }
    | _ => h
  | none => h

theorem Hpi.wiped_of_held {h : Hpi} {x : HostTransaction} {b : HeldBeat} (hx : h.txn = some x) (hb : x.beat = .held b) :
    h.wiped = h.afterBeat x { err := true, data := none } := by
  simp only [wiped, hx, hb]

theorem Hpi.wiped_of_not_held {h : Hpi} (hn : h.held = none) : h.wiped = h := by
  unfold wiped
  split
  next x hx =>
    split
    next b hb => rw [Hpi.held_of_beat hx hb] at hn; cases hn
    next => rfl
  next => rfl

/-- R71, R117, R124, R166: the blocks that a WIPE empties, the log it leaves and the drain engine. -/
theorem State.wipeBlocks_fields (s : State) :
    s.wipeBlocks =
      { s with
        windows := Vector.replicate 16 .free
        slots := []
        queue := []
        log := s.stoppedLog
        hpi := s.hpi.wiped
        drain :=
          { s.drain with
            phase := if s.drain.phase = .forced then .closed else s.drain.phase
            activity := .idle
            begun := false
            timer := clearedTimer } } := by
  have hwiped : s.wiped.hpi = s.hpi := by rw [wiped, stopDraining_eq]; rfl
  have hfields : s.wiped = { s.wiped with hpi := s.hpi } := by rw [← hwiped]
  rw [wipeBlocks_eq]
  cases hheld : s.hpi.held with
  | none =>
    rw [if_neg (by simp), Hpi.wiped_of_not_held hheld, hfields, wiped, stopDraining_eq]
    rfl
  | some b =>
    obtain ⟨x, hx, hb⟩ := (Hpi.held_eq_some _ _).mp hheld
    rw [if_pos (by simp), Hpi.wiped_of_held hx hb, answerBeat_eq _ x _ _ (hwiped ▸ hx), hwiped, wiped, stopDraining_eq]
    rfl

theorem wipeWord_toNat {dropped slots windows : Nat} (hd : dropped < 2 ^ 8) (hs : slots < 2 ^ 16) (hw : windows < 2 ^ 8) :
    (wipeWord dropped slots windows).toNat = dropped * 2 ^ 24 + slots * 2 ^ 8 + windows := by
  simp only [wipeWord, toNat_append_eq, BitVec.toNat_ofNat, Nat.mod_eq_of_lt hd, Nat.mod_eq_of_lt hs, Nat.mod_eq_of_lt hw]
  ring

/-- Settles O31: the blocks of a WIPE, and the counts of the laws' bounds. -/
theorem wipeEmptiesThePart : Obligations.WipeEmptiesThePart := by
  unfold Obligations.WipeEmptiesThePart
  intro ch tag a s hs hline hq hstore stopped t
  refine ⟨s.wipeCounts, ?counts, ?effect⟩
  case counts =>
    have hqueue : s.queue.countP BatchRecord.isQueued < 2 ^ 8 := (List.countP_le_length.trans hq.1).trans_lt (by decide)
    have hwindows : allWindows.countP (fun v => !(s.win v).isFree) < 2 ^ 8 := List.countP_le_length.trans_lt (by decide)
    have hfree : allWindows.countP (fun v => !(s.win v).isFree) = allWindows.countP (fun v => s.win v ≠ .free) :=
      List.countP_congr fun v _ => by
        rw [Bool.not_eq_true', WindowEntry.isFree_eq_false, decide_eq_true_eq]
    rw [State.wipeCounts, wipeWord_toNat hqueue (hstore.2.trans_lt (by decide)) hwindows, hfree]
  case effect =>
    have hblocks : s.wipeBlocks = t := s.wipeBlocks_fields
    rw [exec_wipe_ready ch tag a hs hline, hblocks]

/-! ## What a request leaves of the link (R143, R144) -/

/-- Only the two ends of a hardware reset move RESETN. -/
theorem Move.resetn_eq {l : Label} {s t : State} (h : Move l s t) (hr : l ≠ .reset) (hl : l ≠ .release) : t.resetn = s.resetn := by
  cases h with
  | reset => exact absurd rfl hr
  | release => exact absurd rfl hl
  | stage _ _ w a wd be ha h => obtain ⟨d, e, held, g, -, ⟨x, -, rfl⟩ | ⟨-, -, -, rfl⟩⟩ := s.stage_cases t w a wd be h <;> rfl
  | abort _ w hw => obtain ⟨d, e, held, g, -, h⟩ := State.abortGroup_of_isCapturing hw; rw [h]; rfl
  | head _ f hf => rw [State.changeHead_eq]; rfl
  | begin _ r rest d hq hr hl hs ha hc => rw [State.reserveHead_eq]; rfl
  | wipe => simp [State.wiped, State.stopDraining_eq]
  | close => simp [State.closeBatch]
  | cancel => simp [State.removeBatch, State.cancelRetire, State.freeSlots]
  | complete => simp [State.completed, State.retireMembers, State.freeSlots]
  | _ => rfl

theorem Moves.resetn_eq {L : List Label} {n : Nat} {s t : State} (h : Moves L n s t) (hr : .reset ∉ L) (hl : .release ∉ L) :
    t.resetn = s.resetn := by
  have hnot {l m : Label} (hm : m ∉ L) (hi : m ≠ .inner) (hin : l = .inner ∨ l ∈ L) : l ≠ m := by
    rintro rfl
    exact hin.elim hi hm
  induction h with
  | refl => rfl
  | step hin h _ ih => exact ih.trans (h.resetn_eq (hnot hr (by decide) hin) (hnot hl (by decide) hin))

theorem State.takeRequest_resetn (q : Request) (s : State) : (s.takeRequest q).resetn = s.resetn := by
  have hlabels : .reset ∉ q.labels ∧ .release ∉ q.labels := by
    cases q with
    | refused ch tag why => exact ⟨List.not_mem_nil, List.not_mem_nil⟩
    | frame f =>
      simp only [Request.labels]
      cases kindOfCode f.kind with
      | none => exact ⟨List.not_mem_nil, List.not_mem_nil⟩
      | some k => cases k <;> decide
  exact (s.takeRequest_moves q).resetn_eq hlabels.1 hlabels.2

/-- A request about one window leaves the assembler when its part for each window does. -/
theorem windowForm_assembler {body : FrameBody} {k : WindowNo → State × Reply}
    (hk : ∀ w, (k w).1.slc.assembler = s.slc.assembler) : (windowForm body s k).1.slc.assembler = s.slc.assembler := by
  unfold windowForm shortForm
  cases body with
  | long ws => rfl
  | short a =>
    dsimp only
    split
    · exact hk _
    · rfl

theorem slc_of_aside {f : State → State} (h : ∀ (s : State) x p, f (s.aside x p) = (f s).aside x p) (s : State) :
    (f s).slc.assembler = s.slc.assembler := by
  rw [(s.aside_frame (f := f) fun x p => h s x p).1]

/-- R138: no request function touches the frame being assembled. -/
theorem requestOf_assembler (k : Kind) (ch : Channel) (body : FrameBody) {f : State → State × Reply} (hf : requestOf k ch body = some f)
    (s : State) : (f s).1.slc.assembler = s.slc.assembler := by
  cases k with
  | wipe => cases hf
  | resync => cases hf
  | ident => cases hf; cases body <;> rfl
  | status => cases hf; cases body <;> rfl
  | configGet => cases hf; cases body <;> rfl
  | configSet =>
    cases hf
    have happly (c : ConfigRecord) := slc_of_aside (f := (State.applyConfig · c)) (fun s x p => s.applyConfig_aside x p c) s
    unfold requestConfigSet longForm3
    split
    · dsimp only
      split
      · rfl
      · split
        · rfl
        · exact happly _
    · rfl
  | setLimit =>
    cases hf
    unfold requestSetLimit shortForm
    split
    · dsimp only; split <;> rfl
    · rfl
  | winDefine =>
    cases hf
    unfold requestWinDefine longForm5
    split
    · dsimp only
      split
      · rfl
      · split_ifs <;> rfl
    · rfl
  | winStart =>
    cases hf
    exact windowForm_assembler fun w => by split <;> [rfl; split <;> rfl]
  | winRelease =>
    cases hf
    exact windowForm_assembler fun w => by split <;> [rfl; split <;> rfl]
  | winQuery => cases hf; exact windowForm_assembler fun _ => rfl
  | winAbort =>
    cases hf
    refine windowForm_assembler fun w => ?_
    have habort := slc_of_aside (f := fun t => ((t.abortGroup w).retryAfter (t.freedCount (Slot.openOf w))).arbitrate)
      (fun s x p => by simp only [State.abortGroup_aside, State.freedCount_aside, State.retryAfter_aside, State.arbitrate_aside]) s
    split_ifs
    exacts [rfl, rfl, habort]
  | close =>
    cases hf
    have hclose (b : Bool) (ws : List WindowNo) := slc_of_aside (f := fun t => (t.closeBatch b ws).queueFilled)
      (fun s x p => by simp only [State.closeBatch_aside, State.queueFilled_aside]) s
    have hjoin (b : Bool) (ws : List WindowNo) := slc_of_aside (f := fun t => t.closeBatch b ws)
      (fun s x p => by simp only [State.closeBatch_aside]) s
    unfold requestClose longForm1
    split
    · dsimp only
      split
      · rfl
      · split_ifs
        exacts [rfl, rfl, rfl, rfl, hclose _ _, hjoin _ _]
    · rfl
  | cancel =>
    cases hf
    have hcancel (r : BatchRecord) := slc_of_aside (f := (State.cancelBatch · r)) (fun s x p => s.cancelBatch_aside x p r) s
    unfold requestCancel longForm1
    split
    · dsimp only
      split
      · rfl
      · split
        · rfl
        · split
          · split <;> [rfl; exact hcancel _]
          · rfl
    · rfl
  | logRead =>
    cases hf
    have htake (n : Nat) := slc_of_aside (f := (State.takeRecords · n)) (fun s x p => s.takeRecords_aside x p n) s
    unfold requestLogRead shortForm
    split
    · dsimp only; split <;> [rfl; exact htake _]
    · rfl
  | sigReset => cases hf; cases body <;> rfl
  | eventAck =>
    cases hf
    unfold requestEventAck longForm1
    split
    · dsimp only; split <;> rfl
    · rfl

/-! ## Requests behind a request (R144) -/

/-- The state with requests that claimed places at the tail of the response queue and wait. -/
def State.withBehind (s : State) (behind : List Request) : State := s.setResponses (s.slc.responses ++ behind.map .awaiting)

theorem fillFirst_append_behind (r : Response) {ps : List Place} {q : Request} (h : firstAwaiting ps = some q) (qs : List Place) :
    fillFirst r (ps ++ qs) = fillFirst r ps ++ qs := by
  induction ps with
  | nil => cases h
  | cons p ps ih =>
    cases p with
    | awaiting q' => rfl
    | filled x => exact congrArg (_ :: ·) (ih h)

theorem dropFilled_append_behind {ps : List Place} {q : Request} (h : firstAwaiting ps = some q) (qs : List Place) :
    dropFilled (ps ++ qs) = dropFilled ps ++ qs := by
  induction ps with
  | nil => cases h
  | cons p ps ih =>
    cases p with
    | awaiting q' => rfl
    | filled x => exact ih h

/-- A request that waits still waits once the FILLED places are dropped. -/
theorem firstAwaiting_dropFilled {ps : List Place} {q : Request} (h : firstAwaiting ps = some q) :
    firstAwaiting (dropFilled ps) = some q := by
  induction ps with
  | nil => cases h
  | cons p ps ih =>
    cases p with
    | awaiting q' => exact h
    | filled x => exact ih h

section
variable {q : Request} (hq : firstAwaiting s.slc.responses = some q) (behind : List Request)
include hq

theorem State.fill_withBehind (ch : Channel) (tag : Tag) (reply : Reply) :
    (s.withBehind behind).fill ch tag reply = (s.fill ch tag reply).withBehind behind := by
  simp only [fill, withBehind, setResponses_slc, fillFirst_append_behind _ hq]
  rfl

theorem State.makeWipeEffect_withBehind : (s.withBehind behind).makeWipeEffect = s.makeWipeEffect.withBehind behind := by
  have hblocks : (s.withBehind behind).wipeBlocks = s.wipeBlocks.withBehind behind := by
    rw [withBehind, wipeBlocks_setResponses, withBehind, s.wipeBlocks_slc]
  have hfirst : firstAwaiting s.wipeBlocks.slc.responses = some q := by rw [s.wipeBlocks_slc, hq]
  have hfirst' : firstAwaiting (s.wipeBlocks.withBehind behind).slc.responses = some q := firstAwaiting_append _ _ _ hfirst
  simp only [makeWipeEffect, hblocks, fillWipe, hfirst, hfirst']
  cases q with
  | refused ch tag why => rfl
  | frame f =>
    dsimp only
    rw [State.fill_withBehind hfirst]
    rfl

theorem State.takeWipe_withBehind (f : Frame) : (s.withBehind behind).takeWipe f = (s.takeWipe f).withBehind behind := by
  have hline : (s.withBehind behind).lineInProgress = s.lineInProgress := rfl
  unfold takeWipe
  split
  · exact State.fill_withBehind hq behind _ _ _
  · rw [hline]
    split
    · rfl
    · exact State.makeWipeEffect_withBehind hq behind

theorem State.takeResync_withBehind (f : Frame) : (s.withBehind behind).takeResync f = (s.takeResync f).withBehind behind := by
  unfold takeResync
  split
  · exact State.fill_withBehind hq behind _ _ _
  · simp only [withBehind, setResponses_slc, dropFilled_append_behind hq, fillFirst_append_behind _ (firstAwaiting_dropFilled hq)]
    rfl

/-- R144: the first request that waits is taken as if none stood behind it. -/
theorem State.takeRequest_withBehind (q' : Request) : (s.withBehind behind).takeRequest q' = (s.takeRequest q').withBehind behind := by
  cases q' with
  | refused ch tag why => exact State.fill_withBehind hq behind _ _ _
  | frame f =>
    cases hk : kindOfCode f.kind with
    | none => simp only [takeRequest, hk]; exact State.fill_withBehind hq behind _ _ _
    | some k =>
      cases hf : requestOf k f.ch f.body with
      | some g =>
        have hblind := requestOf_blind k f.ch f.body g hf
        have hresponses := (hblind.2 s).1
        have htaken (t : State) := code_of_kindOfCode hk ▸ takeRequest_frame k f.ch f.tag f.body g hf t
        have hpart : g (s.withBehind behind) = ((g s).1.withBehind behind, (g s).2) := by
          rw [withBehind, hblind.1, withBehind, hresponses]
        rw [htaken, htaken, fillReply, hpart, fillReply]
        exact State.fill_withBehind (hresponses ▸ hq) behind _ _ _
      | none =>
        simp only [takeRequest, hk]
        cases k <;> simp only [requestOf, reduceCtorEq] at hf
        · exact State.takeWipe_withBehind hq behind f
        · exact State.takeResync_withBehind hq behind f

end

theorem State.makeWipeEffect_assembler (s : State) : s.makeWipeEffect.slc.assembler = s.slc.assembler := by
  have hblocks : s.wipeBlocks.slc.assembler = s.slc.assembler := congrArg Slc.assembler s.wipeBlocks_slc
  unfold makeWipeEffect fillWipe
  split
  · exact hblocks
  · exact hblocks

/-- R138, R145: a request taken leaves the frame being assembled, and claims no place. -/
theorem State.takeRequest_link (q : Request) (s : State) :
    (s.takeRequest q).slc.assembler = s.slc.assembler ∧ (s.takeRequest q).slc.responses.length ≤ s.slc.responses.length := by
  have hfill (t : State) (ch : Channel) (tag : Tag) (reply : Reply) : (t.fill ch tag reply).slc.assembler = t.slc.assembler ∧
      (t.fill ch tag reply).slc.responses.length ≤ t.slc.responses.length := ⟨rfl, (fillFirst_length _ _).le⟩
  cases q with
  | refused ch tag why => exact hfill s ch tag _
  | frame f =>
    cases hk : kindOfCode f.kind with
    | none => simp only [takeRequest, hk]; exact hfill s _ _ _
    | some k =>
      cases hf : requestOf k f.ch f.body with
      | some g =>
        have htaken := code_of_kindOfCode hk ▸ takeRequest_frame k f.ch f.tag f.body g hf s
        obtain ⟨hasm, hlen⟩ := hfill (g s).1 f.ch f.tag (g s).2
        rw [htaken]
        exact ⟨hasm.trans (requestOf_assembler k f.ch f.body hf s),
          hlen.trans_eq (congrArg List.length ((requestOf_blind k f.ch f.body g hf).2 s).1)⟩
      | none =>
        simp only [takeRequest, hk]
        cases k <;> simp only [requestOf, reduceCtorEq] at hf
        · simp only [execute, takeWipe]
          split
          · exact hfill s _ _ _
          · split
            · exact ⟨rfl, le_rfl⟩
            · exact ⟨s.makeWipeEffect_assembler, s.makeWipeEffect_responses_length.le⟩
        · simp only [execute, takeResync]
          split
          · exact hfill s _ _ _
          · exact ⟨rfl, (fillFirst_length _ _).trans_le (dropFilled_length_le _)⟩

/-- R144: at a command path at rest, or where a WIPE waits, requests that come one by one do what they do where they stand behind. -/
theorem execAll_requests {n : Nat} (behind : List Request) (hn : behind.length ≤ n) (s : State) (hr : s.resetn = true)
    (hrest : firstAwaiting s.slc.responses = none ∨ s.slc.wipeTaken = true) (hlen : s.slc.responses.length + behind.length ≤ 8)
    (hstands : ∀ q ∈ behind, q.standsFor s.slc.assembler = true) :
    execAll (behind.map Request.command) s = .next (State.runCommands n (s.withBehind behind)) := by
  induction behind generalizing n s with
  | nil =>
    have hnone : s.withBehind [] = s := by
      rw [State.withBehind, List.map_nil, List.append_nil]
      rfl
    rw [hnone]
    refine congrArg Host.Outcome.next (Eq.symm ?_)
    rcases hrest with hidle | hwipe
    · exact State.runCommands_idle _ _ hidle
    · exact State.runCommands_wipe _ _ hwipe
  | cons q behind ih =>
    obtain ⟨m, rfl⟩ : ∃ m, n = m + 1 := ⟨n - 1, by simp only [List.length_cons] at hn; omega⟩
    simp only [List.length_cons] at hn hlen
    have hexec : exec q.command s = .next (s.accept q) := exec_requestCommand q s hr (hstands q List.mem_cons_self)
    have hcons : s.withBehind (q :: behind) = (s.withBehind [q]).withBehind behind := by
      simp only [State.withBehind, State.setResponses_slc, List.append_assoc, List.map_cons, List.map_nil, List.singleton_append]
      rfl
    rw [List.map_cons, execAll_cons_next hexec]
    by_cases hwipe : s.slc.wipeTaken = true
    · have haccept : s.accept q = s.withBehind [q] := s.accept_behind q (by omega) hwipe
      have hstill (k : Nat) : State.runCommands k ((s.withBehind [q]).withBehind behind) = (s.withBehind [q]).withBehind behind :=
        State.runCommands_wipe k _ hwipe
      rw [haccept, ih (n := m) (by omega) (s.withBehind [q]) hr (.inr hwipe) (by simp [State.withBehind]; omega)
        (fun q' h => hstands q' (List.mem_cons_of_mem q h)), hcons, hstill, hstill]
    · have hfree : s.slc.wipeTaken = false := Bool.not_eq_true _ ▸ hwipe
      have hidle : firstAwaiting s.slc.responses = none := hrest.resolve_right hwipe
      have hfirst : firstAwaiting (s.withBehind [q]).slc.responses = some q := firstAwaiting_append_awaiting _ _ hidle
      have hrests := State.takeRequest_rests q (t := s.withBehind [q]) rfl hidle
      obtain ⟨hasm, hplaces⟩ := State.takeRequest_link q (s.withBehind [q])
      have haccept : s.accept q = (s.withBehind [q]).takeRequest q := by
        rw [s.accept_ready q ⟨hr, hfree, hidle, by omega⟩]
        exact hrests.elim (State.runCommands_idle _ _) (State.runCommands_wipe _ _)
      have hrun : State.runCommands (m + 1) (s.withBehind (q :: behind)) =
          State.runCommands m (((s.withBehind [q]).takeRequest q).withBehind behind) := by
        have hfirst' : firstAwaiting ((s.withBehind [q]).withBehind behind).slc.responses = some q :=
          firstAwaiting_append _ _ _ hfirst
        have hfree' : ((s.withBehind [q]).withBehind behind).slc.wipeTaken = false := hfree
        rw [hcons, State.runCommands, hfree', if_neg Bool.false_ne_true, hfirst']
        exact congrArg (State.runCommands m) (State.takeRequest_withBehind hfirst behind q)
      rw [haccept, hrun]
      refine ih (by omega) _ ((State.takeRequest_resetn q _).trans hr) hrests ?_ fun q' h => ?_
      · have : (s.withBehind [q]).slc.responses.length = s.slc.responses.length + 1 := by simp [State.withBehind]
        omega
      · rw [hasm]
        exact hstands q' (List.mem_cons_of_mem q h)

/-! ## WIPE during a line (R144, R165) -/

theorem exec_wipeEffect (hr : s.resetn = true) :
    exec .wipeEffect s = .next (if s.slc.wipeTaken && s.lineInProgress.isNone then s.finishWipe.arbitrate else s) :=
  whenReleased_of_resetn (fun s => if s.slc.wipeTaken && s.lineInProgress.isNone then s.finishWipe.arbitrate else s) hr

/-- R165: a WIPE taken during a line waits. -/
theorem exec_wipe_waits (ch : Channel) (tag : Tag) (a : Byte) (hs : s.LinkReady) (hline : s.lineInProgress.isSome = true) :
    exec (.wipe ch tag (.short a)) s =
      .next { s with slc := { s.slc with
        responses := s.slc.responses ++ [.awaiting (.frame { kind := 0x05#8, ch := ch, tag := tag, body := .short a })]
        wipeTaken := true } } := by
  obtain ⟨l, hl⟩ := Option.isSome_iff_exists.mp hline
  refine (exec_commandOf .wipe ch tag (.short a) s hs.1).trans (congrArg Host.Outcome.next ?_)
  rw [s.accept_ready _ hs]
  have hl' (ps : List Place) : (s.setResponses ps).lineInProgress = some l := hl
  simp only [State.takeRequest, kindOfCode_code, State.execute, State.takeWipe, hl']
  exact State.runCommands_wipe _ _ rfl

/-- R165: the effect of a WIPE that waited is that of one taken now, with the requests behind it still behind. -/
theorem State.makeWipeEffect_waited {ch : Channel} {tag : Tag} {a : Byte} {ahead : List Place} {behind : List Request}
    (hahead : firstAwaiting ahead = none)
    (hps : s.slc.responses =
      ahead ++ .awaiting (.frame { kind := 0x05#8, ch := ch, tag := tag, body := .short a }) :: behind.map .awaiting) :
    s.makeWipeEffect =
      ((s.setSlc { s.slc with responses := ahead, wipeTaken := false }).wipeBlocks.answered ch tag
        (.data [s.wipeCounts])).withBehind behind := by
  let u := s.setSlc { s.slc with responses := ahead, wipeTaken := false }
  let q : Request := .frame { kind := 0x05#8, ch := ch, tag := tag, body := .short a }
  let v := s.setResponses (ahead ++ [.awaiting q])
  have hs : s = v.withBehind behind := by
    have hall : ahead ++ [.awaiting q] ++ behind.map .awaiting = s.slc.responses := by rw [hps, List.append_assoc]; rfl
    show s = s.setSlc { s.slc with responses := ahead ++ [.awaiting q] ++ behind.map .awaiting }
    rw [hall]
    rfl
  have hfirst : firstAwaiting v.slc.responses = some q := firstAwaiting_append_awaiting _ _ hahead
  have hv : v.makeWipeEffect = u.wipeBlocks.answered ch tag (.data [s.wipeCounts]) := by
    have hfirst' : firstAwaiting v.wipeBlocks.slc.responses = some q := by rw [v.wipeBlocks_slc, hfirst]
    have hslc : u.wipeBlocks.slc = u.slc := u.wipeBlocks_slc
    have hblocks : v.wipeBlocks = u.wipeBlocks.setSlc v.slc := by
      rw [v.wipeBlocks_fields, u.wipeBlocks_fields]
      rfl
    have hfill := State.fill_tail u v.wipeBlocks ch tag (.data [s.wipeCounts]) q (by rw [v.wipeBlocks_slc]; rfl) hahead
    have hanswered : u.wipeBlocks.answered ch tag (.data [s.wipeCounts]) = u.wipeBlocks.setSlc { u.slc with
        responses := u.slc.responses ++ [.filled { ch := ch, tag := tag, reply := .data [s.wipeCounts] }] } := by
      rw [answered, setResponses, hslc]
    simp only [makeWipeEffect, fillWipe, hfirst', q]
    rw [show v.wipeCounts = s.wipeCounts from rfl, hfill, hblocks, hanswered]
    rfl
  calc s.makeWipeEffect = (v.withBehind behind).makeWipeEffect := congrArg _ hs
    _ = v.makeWipeEffect.withBehind behind := State.makeWipeEffect_withBehind hfirst behind
    _ = _ := by rw [hv]

/-- Settles O32: the waiting WIPE, its effect as one taken now with the requests behind it, and where WIPE_EFFECT does nothing. -/
theorem wipeWaitsForTheLine : Obligations.WipeWaitsForTheLine := by
  unfold Obligations.WipeWaitsForTheLine
  refine ⟨fun ch tag a s hs hline => exec_wipe_waits ch tag a hs hline, ?effect, ?nothing⟩
  case effect =>
    intro ch tag a ahead behind s hr hport htaken hline hahead hlen hstands hps
    let u := s.setSlc { s.slc with responses := ahead, wipeTaken := false }
    let v := u.wipeBlocks.answered ch tag (.data [u.wipeCounts])
    have hu : u.LinkReady := ⟨hr, rfl, hahead, show ahead.length < 8 by omega⟩
    have hwipe : exec (.wipe ch tag (.short a)) u = .next v := exec_wipe_ready ch tag a hu hline
    have heffect : s.makeWipeEffect = v.withBehind behind := State.makeWipeEffect_waited hahead hps
    have hvslc : v.slc.responses = ahead ++ [.filled { ch := ch, tag := tag, reply := .data [u.wipeCounts] }] := by
      show u.wipeBlocks.slc.responses ++ _ = _
      rw [u.wipeBlocks_slc]
      rfl
    have hvresetn : v.resetn = true := by
      show u.wipeBlocks.resetn = true
      rw [u.wipeBlocks_fields]
      exact hr
    have hvasm : v.slc.assembler = s.slc.assembler := by
      show u.wipeBlocks.slc.assembler = _
      rw [u.wipeBlocks_slc]
      rfl
    have hrequests : execAll (behind.map Request.command) v = .next (State.runCommands s.makeWipeEffect.slc.responses.length
        (v.withBehind behind)) := by
      refine execAll_requests behind ?_ v hvresetn (.inl ?_) ?_ (by rwa [hvasm])
      · rw [State.makeWipeEffect_responses_length, hps]
        simp
        omega
      · rw [hvslc]
        exact firstAwaiting_append_filled _ _ hahead
      · rw [hvslc]
        simp
        omega
    have hsettled : s.finishWipe.PortSettled :=
      State.runCommands_portSettled _ ((s.makeWipeEffect_moves (L := [])).portSettled (by decide) (by decide) hport)
    refine ⟨s.finishWipe, ?_, (execAll_cons_next hwipe).trans (hrequests.trans ?_)⟩
    · rw [exec_wipeEffect hr, htaken, hline, State.arbitrate_settled _ hsettled]
      rfl
    · rw [← heffect]
      rfl
  case nothing =>
    intro s hnot
    by_cases hr : s.resetn = true
    · rw [exec_wipeEffect hr, if_neg]
      rintro hboth
      rw [Bool.and_eq_true] at hboth
      obtain ⟨htaken, hnone⟩ := hboth
      rcases hnot with hfree | hline
      · rw [hfree] at htaken
        cases htaken
      · rw [Option.isNone_iff_eq_none.mp hnone] at hline
        cases hline
    · exact congrArg Host.Outcome.next (if_neg hr)

end Sys2Proof.Machine
end

section
/-! The drain engine: the edges of QUIET, the opportunities, and the answers within a line. -/

namespace Sys2Proof.Machine

variable {s : State}

/-! ## What an opportunity makes the engine do (R83, R91, R97) -/

theorem exec_drainStart (hr : s.resetn = true) :
    exec .drainStart s = .next (if s.startable then s.startBatches.arbitrate else s) :=
  whenReleased_of_resetn (fun s => if s.startable then s.startBatches.arbitrate else s) hr

theorem DrainActivity.drains_eq_false {a : DrainActivity} (h : a = .idle ∨ a = .waitLog) : a.drains = false := by
  rcases h with rfl | rfl <;> rfl

theorem State.startBatches_of_idle (hd : s.drain.activity.drains = false) (h : s.startable = false) :
    s.startBatches = s.setActivity .idle := State.testStart_of_not_startable _ hd h

theorem State.startBatches_of_drains (hd : s.drain.activity.drains = true) : s.startBatches = s := State.testStart_of_drains _ hd

theorem State.proceed_of_line (h : s.lineInProgress.isSome = true) : s.proceed = s := by
  unfold lineInProgress at h
  unfold proceed
  split at h
  next l hl => rw [hl]
  next => cases h

theorem State.proceed_of_idle (h : s.drain.activity = .idle ∨ s.drain.activity = .waitLog) : s.proceed = s.startBatches := by
  rcases h with h | h <;> simp only [proceed, h]

theorem State.proceed_of_held (h : s.drain.activity = .held) : s.proceed = s.beginLine := by
  simp only [proceed, h]

/-- R87: the line at the resume point. -/
theorem State.beginLine_eq {r : BatchRecord} {f : DrainFields} {p : Member × Nat} {x : Slot} (hd : s.drainingHead = some (r, f))
    (hp : f.resume = some p) (hx : s.slotAt p = some x) : s.beginLine = s.beginSlot p.1 x := by
  simp only [beginLine, hd, hp, hx]

/-- R83, R91, R97: an engine that drains nothing tests the start conditions as DRAIN_START does; where they fail it is IDLE. -/
theorem State.proceed_idle_cases (hr : s.resetn = true) (hport : s.PortSettled)
    (h : s.drain.activity = .idle ∨ s.drain.activity = .waitLog) :
    (s.startable = false → s.proceed.arbitrate = { s with drain := { s.drain with activity := .idle } }) ∧
    (s.startable = true → ∃ u, exec .drainStart s = .next u ∧ s.proceed.arbitrate = u) := by
  have hd := DrainActivity.drains_eq_false h
  refine ⟨fun hs => ?_, fun hs => ⟨_, exec_drainStart_of_startable hr hs, ?_⟩⟩
  · rw [State.proceed_of_idle h, State.startBatches_of_idle hd hs]
    exact State.arbitrate_settled (s.setActivity .idle) hport
  · rw [State.proceed_of_idle h]

/-- R91, R97: a HELD batch begins the line at its resume point. -/
theorem State.proceed_held {r : BatchRecord} {f : DrainFields} {p : Member × Nat} {x : Slot} (hport : s.PortSettled)
    (ha : s.drain.activity = .held) (hd : s.drainingHead = some (r, f)) (hp : f.resume = some p) (hx : s.slotAt p = some x) :
    s.proceed.arbitrate = s.lineBegun p.1 x := by
  rw [State.proceed_of_held ha, State.beginLine_eq hd hp hx, State.beginSlot_arbitrate _ _ _ hport]

/-! ## The edges of QUIET (R76, R77, R90, R91) -/

theorem exec_quietStart (hr : s.resetn = true) : exec .quietStart s = .next (if s.quiet then s else s.quietStart) :=
  congrArg Host.Outcome.next (if_pos hr)

theorem exec_quietEnd (hr : s.resetn = true) : exec .quietEnd s = .next (if s.quiet then s.quietEnd else s) :=
  congrArg Host.Outcome.next (if_pos hr)

/-- R91: the state in which a quiet start looks for work. -/
def State.quietBegun (s : State) : State :=
  { s with
    quiet := true
    drain :=
      { s.drain with
        phase := .quiet, remainder := s.config.budget.toNat * 64, frameCount := s.drain.frameCount + 1, begun := false
        timer := { expired := false, elapsed := 0, micros := 0 } } }

theorem exec_quietStart_of_low (hr : s.resetn = true) (hq : s.quiet = false) :
    exec .quietStart s = .next s.quietBegun.proceed.arbitrate := by
  rw [exec_quietStart hr, hq]
  rfl

/-- R90: the activity and the queue after a quiet end in phase QUIET. -/
theorem State.quietEndActivity_eq (s : State) :
    s.quietEndActivity =
      { s with
        drain := { s.drain with activity := if s.drain.activity = .waitLog then .idle else s.drain.activity }
        queue :=
          if s.lineInProgress.any s.linesLeft = true then
            s.queue.modifyHead fun r => { r with flags := { r.flags with spanned := true } }
          else s.queue } := by
  have hkeep (h : s.drain.activity ≠ .waitLog) :
      (if s.drain.activity = .waitLog then DrainActivity.idle else s.drain.activity) = s.drain.activity := if_neg h
  unfold quietEndActivity
  split
  next ha =>
    have hnone : s.lineInProgress = none := by rw [lineInProgress, ha]
    rw [if_pos ha, hnone]
    rfl
  next l ha =>
    have hline : s.lineInProgress = some l := by rw [lineInProgress, ha]
    rw [hkeep (by rw [ha]; exact DrainActivity.noConfusion), hline, Option.any_some]
    split
    · rw [flagHead, changeHead_eq]
      rfl
    · rfl
  next hwait hwriting =>
    have hnone : s.lineInProgress = none := by
      unfold lineInProgress
      split
      next l hl => exact absurd hl (hwriting l)
      next => rfl
    rw [hkeep hwait, hnone]
    rfl

/-- Settles O54: a start by what the engine was doing, an end by the phase. -/
theorem quietEdgesOpenAndClose : Obligations.QuietEdgesOpenAndClose := by
  unfold Obligations.QuietEdgesOpenAndClose
  intro s hr
  refine ⟨fun hq => ?start, fun hq => ?high, fun hq => ?low, fun hq hphase => ?closed, fun hq hphase => ?quiet⟩
  case start =>
    have hexec := exec_quietStart_of_low hr hq
    refine ⟨fun hline hport => ?_, fun hidle hport => ?_⟩
    · have hgoes : s.quietBegun.proceed = s.quietBegun := State.proceed_of_line hline
      rw [hexec, hgoes, State.arbitrate_settled s.quietBegun hport]
      rfl
    · obtain ⟨hnot, hstart⟩ := State.proceed_idle_cases (s := s.quietBegun) hr hport hidle
      refine ⟨fun hs => hexec.trans (congrArg Host.Outcome.next (hnot hs)), fun hs => ?_⟩
      obtain ⟨u, hu, hsame⟩ := hstart hs
      exact ⟨u, hu, hexec.trans (congrArg Host.Outcome.next hsame)⟩
  case high => rw [exec_quietStart hr, hq, if_pos rfl]
  case low => rw [exec_quietEnd hr, hq, if_neg Bool.false_ne_true]
  case closed =>
    rw [exec_quietEnd hr, hq, if_pos rfl, State.quietEnd, if_neg hphase]
    rfl
  case quiet =>
    rw [exec_quietEnd hr, hq, if_pos rfl, State.quietEnd, if_pos hphase, State.quietEndActivity_eq]
    rfl

/-! ## Opportunities (R91, R96 to R99) -/

/-- R97: the state in which a starvation timer has expired. -/
def State.starved (s : State) : State :=
  { s with
    events := s.events ||| 0x040#11
    drain :=
      { s.drain with
        timer :=
          if s.config.starvationLimit.toNat ≤ s.drain.timer.elapsed then { s.drain.timer with expired := true }
          else { expired := true, elapsed := s.config.starvationLimit.toNat, micros := 0 } } }

/-- R97: the state in which a forced stretch looks for work. -/
def State.forcedBegun (s : State) : State := { s.starved with drain := { s.starved.drain with phase := .forced, begun := false } }

theorem State.expireStarvation_eq (s : State) :
    s.expireStarvation = if s.config.forceEnable then s.forcedBegun.proceed else s.starved := rfl

theorem State.timerRuns_iff (s : State) :
    s.timerRuns = true ↔ s.config.starvationLimit ≠ 0#16 ∧ s.queue ≠ [] ∧ s.quiet = false ∧ s.drain.phase ≠ .forced ∧
      s.drain.timer.expired = false := by
  simp [timerRuns, and_assoc]

/-- Settles O55: the timer's conditions, its expiry with and without force, and the resumption of a HELD batch. -/
theorem opportunitiesBegin : Obligations.OpportunitiesBegin := by
  unfold Obligations.OpportunitiesBegin
  intro s hr hport
  refine ⟨s.timerRuns_iff, fun hstill => ?still, ?expiry, fun r f p x hq ha hd hp hx => ?resumed⟩
  case still => rw [exec_starvationTimerExpiry hr, hstill, if_neg Bool.false_ne_true]
  case resumed =>
    rw [exec_quietStart_of_low hr hq, State.proceed_held (s := s.quietBegun) hport ha hd hp hx]
    rfl
  case expiry =>
    intro starved forced hruns
    have hexec : exec .starvationTimerExpiry s = .next s.expireStarvation.arbitrate := by
      rw [exec_starvationTimerExpiry hr, if_pos hruns]
    rw [s.expireStarvation_eq] at hexec
    refine ⟨fun hforce => ?_, fun hforce => ?_⟩
    · rw [hexec, hforce, if_neg Bool.false_ne_true]
      exact congrArg Host.Outcome.next (State.arbitrate_settled starved hport)
    · rw [if_pos hforce] at hexec
      refine ⟨fun hline => ?_, fun hidle => ?_, fun r f p x ha hd hp hx => ?_⟩
      · have hgoes : s.forcedBegun.proceed = s.forcedBegun := State.proceed_of_line hline
        rw [hexec, hgoes]
        exact congrArg Host.Outcome.next (State.arbitrate_settled forced hport)
      · obtain ⟨hnot, hstart⟩ := State.proceed_idle_cases (s := s.forcedBegun) hr hport hidle
        refine ⟨fun hs => hexec.trans (congrArg Host.Outcome.next (hnot hs)), fun hs => ?_⟩
        obtain ⟨u, hu, hsame⟩ := hstart hs
        exact ⟨u, hu, hexec.trans (congrArg Host.Outcome.next hsame)⟩
      · rw [hexec, State.proceed_held (s := s.forcedBegun) hport ha hd hp hx]
        rfl

/-! ## An answer within a line (R87, R89, R114, R115) -/

/-- R89: an ERROR answer to a drain beat is noted on the batch and as an event. -/
theorem State.noteDrainError_eq (s : State) (err : Bool) :
    s.noteDrainError err =
      if err then
        { s with
          events := s.events ||| 0x100#11
          queue := s.queue.modifyHead fun r => { r with flags := { r.flags with memError := true } } }
      else s := by
  cases err with
  | false => rfl
  | true =>
    rw [noteDrainError, flagHead, changeHead_eq]
    rfl

theorem State.noteDrainError_frame (s : State) (err : Bool) :
    (s.noteDrainError err).mpa = s.mpa ∧ (s.noteDrainError err).drain = s.drain := by
  rw [noteDrainError_eq]
  cases err <;> exact ⟨rfl, rfl⟩

/-- R114: memory answers a beat of a drain run. -/
theorem State.memoryAnswer_drainRun {run : DrainRun} {n : Nat} (hport : s.mpa.port = some (.drainRun run n)) (err : Bool) (rd : Word) :
    s.memoryAnswer err rd =
      if n + 1 < run.beats.length then
        { s.noteDrainError err with mpa := { s.mpa with port := some (.drainRun run (n + 1)) } }
      else (((s.noteDrainError err).setMpa { s.mpa with port := none }).runDone).arbitrate := by
  obtain ⟨hmpa, -⟩ := s.noteDrainError_frame err
  simp only [memoryAnswer, hport, hmpa]
  rfl

/-- Settles O57: the next beat of the run, or the next run of the line requested at a free port. -/
theorem drainRunsGoOn : Obligations.DrainRunsGoOn := by
  unfold Obligations.DrainRunsGoOn
  intro err rd run n s hr hport noted
  have hnoted : s.noteDrainError err = noted := s.noteDrainError_eq err
  obtain ⟨-, hdrain⟩ := s.noteDrainError_frame err
  refine ⟨fun hmore => ?_, fun l next rest hlast ha hruns => ?_⟩
  · rw [exec_memoryBeatAnswer err rd hr, State.memoryAnswer_drainRun hport, if_pos hmore, hnoted]
  · rw [exec_memoryBeatAnswer err rd hr, State.memoryAnswer_drainRun hport, if_neg (by omega), ← hnoted, ← Mpa.free_arbitrate]
    simp only [State.runDone, State.setMpa_drain, hdrain, ha, hruns]
    rw [← hdrain]
    rfl

end Sys2Proof.Machine
end

section
/-! The memory port as the blocks see it: they join requests and read nothing of it, so that what they do commutes with a change of the
grant. -/

namespace Sys2Proof.Machine

variable {s : State} {φ : Mpa → Mpa}

/-! ## Changes of the port that a requester does not see -/

/-- The change leaves the drain engine's request and the interlock to the drain engine. -/
def DrainBlind (φ : Mpa → Mpa) : Prop :=
  ∀ (m : Mpa) (d : Option DrainRun) (l : Option Nat),
    φ { m with drainReq := d, interlock := l } = { φ m with drainReq := d, interlock := l }

/-- The change leaves the host path's request to the host path. -/
def HostBlind (φ : Mpa → Mpa) : Prop := ∀ (m : Mpa) (x : PortTxn), φ { m with hostReq := some x } = { φ m with hostReq := some x }

/-- The state with its port changed. -/
def State.onPort (s : State) (φ : Mpa → Mpa) : State := s.setMpa (φ s.mpa)

/-- The host path may join no request, or the change leaves it alone. -/
abbrev State.HostApart (s : State) (φ : Mpa → Mpa) : Prop := HostBlind φ ∨ s.hpi.held = none

theorem State.ite_onPort {p : Prop} [Decidable p] (a b : State) :
    (if p then a.onPort φ else b.onPort φ) = (if p then a else b).onPort φ := by
  split <;> rfl

/-! ## The window table -/

theorem State.mapWindows_onPort (s : State) (f : WindowNo → WindowEntry → WindowEntry) :
    (s.onPort φ).mapWindows f = (s.mapWindows f).onPort φ := by
  have hwin (w : WindowNo) : (s.onPort φ).win w = s.win w := rfl
  have hset (ws : Vector WindowEntry 16) : (s.onPort φ).setWindows ws = (s.setWindows ws).onPort φ := rfl
  simp only [mapWindows, hwin, hset]

theorem State.freeSlots_onPort (s : State) (p : Slot → Bool) : (s.onPort φ).freeSlots p = (s.freeSlots p).onPort φ :=
  (s.setSlots _).mapWindows_onPort _

theorem State.retireMembers_onPort (s : State) (ms : List Member) (q : Sequence) :
    (s.onPort φ).retireMembers ms q = (s.retireMembers ms q).onPort φ := s.mapWindows_onPort _

/-! ## The host path -/

theorem State.retryHeld_of_none (h : s.hpi.held = none) : s.retryHeld = s := by rw [retryHeld, h]

theorem State.releaseHeld_of_none (h : s.hpi.held = none) : s.releaseHeld = s := by rw [releaseHeld, h]

theorem State.afterFreeing_of_none (n : Nat) (h : s.hpi.held = none) : s.afterFreeing n = s := by
  rw [afterFreeing, State.retryHeld_of_none h, ite_self, State.releaseHeld_of_none h]

theorem State.setBeat_onPort (s : State) (b : BeatStatus) : (s.onPort φ).setBeat b = (s.setBeat b).onPort φ := by
  cases ht : s.hpi.txn with
  | none => rw [s.setBeat_none b ht, State.setBeat_none (s.onPort φ) b ht]
  | some t => rw [s.setBeat_eq t b ht, State.setBeat_eq (s.onPort φ) t b ht]; rfl

theorem State.answerBeat_onPort (s : State) (err : Bool) (data : Option Word) :
    (s.onPort φ).answerBeat err data = (s.answerBeat err data).onPort φ := by
  cases ht : s.hpi.txn with
  | none => rw [s.answerBeat_none _ _ ht, State.answerBeat_none (s.onPort φ) _ _ ht]
  | some t => rw [s.answerBeat_eq t _ _ ht, State.answerBeat_eq (s.onPort φ) t _ _ ht]; rfl

theorem State.passWrite_onPort (hφ : HostBlind φ) (s : State) (a : Nat) (wd : Word) (be : BitVec 4) :
    (s.onPort φ).passWrite a wd be = (s.passWrite a wd be).onPort φ := by
  rw [passWrite, setBeat_onPort, passWrite, requestHost, onPort, onPort, requestHost, setMpa_mpa, setMpa_setMpa, setMpa_mpa,
    setMpa_setMpa, hφ]

theorem State.stage_onPort (s : State) (w : WindowNo) (a : Nat) (wd : Word) (be : BitVec 4) :
    (s.onPort φ).stage w a wd be = (s.stage w a wd be).map (·.onPort φ) := by
  have hwin : (s.onPort φ).win w = s.win w := rfl
  have hslots : (s.onPort φ).slots = s.slots := rfl
  have hfree : (s.onPort φ).freeSlotCount = s.freeSlotCount := rfl
  unfold stage
  rw [hwin, hslots, hfree]
  split
  · split
    · rfl
    · split <;> rfl
  · rfl

theorem State.retryHeld_onPort (hh : s.HostApart φ) : (s.onPort φ).retryHeld = s.retryHeld.onPort φ := by
  rcases hh with hφ | hnone
  · have hhpi : (s.onPort φ).hpi = s.hpi := rfl
    have hwin (w : WindowNo) : (s.onPort φ).win w = s.win w := rfl
    unfold retryHeld
    simp only [hhpi, hwin, stage_onPort]
    split
    next h _ =>
      split
      · rfl
      · split
        · generalize s.stage h.window h.addr h.wd h.be = staged
          cases staged with
          | none => rfl
          | some u => exact u.answerBeat_onPort _ _
        · exact s.setBeat_onPort _
        · exact State.passWrite_onPort hφ s _ _ _
        · rfl
    next => rfl
  · rw [State.retryHeld_of_none hnone, State.retryHeld_of_none (s := s.onPort φ) hnone]

theorem State.releaseHeld_onPort (hh : s.HostApart φ) : (s.onPort φ).releaseHeld = s.releaseHeld.onPort φ := by
  rcases hh with hφ | hnone
  · have hhpi : (s.onPort φ).hpi = s.hpi := rfl
    have hwin (w : WindowNo) : (s.onPort φ).win w = s.win w := rfl
    unfold releaseHeld
    simp only [hhpi, hwin, State.passWrite_onPort hφ, State.ite_onPort]
    split <;> rfl
  · rw [State.releaseHeld_of_none hnone, State.releaseHeld_of_none (s := s.onPort φ) hnone]

theorem State.retryHeld_hostApart (hh : s.HostApart φ) : s.retryHeld.HostApart φ :=
  hh.imp_right fun hnone => by rw [State.retryHeld_of_none hnone, hnone]

theorem State.afterFreeing_onPort (hh : s.HostApart φ) (n : Nat) : (s.onPort φ).afterFreeing n = (s.afterFreeing n).onPort φ := by
  unfold afterFreeing
  split
  · rw [State.retryHeld_onPort hh, State.releaseHeld_onPort (State.retryHeld_hostApart hh)]
  · exact State.releaseHeld_onPort hh

theorem State.afterFreeing_hostApart (hh : s.HostApart φ) (n : Nat) : (s.afterFreeing n).HostApart φ :=
  hh.imp_right fun hnone => by rw [State.afterFreeing_of_none n hnone, hnone]

/-! ## The drain engine -/

theorem State.changeHead_onPort (s : State) (f : BatchRecord → BatchRecord) :
    (s.onPort φ).changeHead f = (s.changeHead f).onPort φ := by
  rw [changeHead_eq, changeHead_eq]
  rfl

theorem State.beginSlot_onPort (hφ : DrainBlind φ) (s : State) (m : Member) (x : Slot) :
    (s.onPort φ).beginSlot m x = (s.beginSlot m x).onPort φ := by
  have hmpa : { (s.onPort φ).mpa with interlock := some x.line, drainReq := (runsOf x.cells x.line).head? } =
      φ { s.mpa with interlock := some x.line, drainReq := (runsOf x.cells x.line).head? } := (hφ s.mpa _ _).symm
  unfold beginSlot
  rw [changeHead_onPort]
  exact congrArg (fun m => ((s.changeHead _).setDrain _).setMpa m) hmpa

theorem State.beginLine_onPort (hφ : DrainBlind φ) (s : State) : (s.onPort φ).beginLine = s.beginLine.onPort φ := by
  have hhead : (s.onPort φ).drainingHead = s.drainingHead := rfl
  have hslot (p : Member × Nat) : (s.onPort φ).slotAt p = s.slotAt p := rfl
  unfold beginLine
  simp only [hhead, hslot]
  split
  · split
    · split
      · exact State.beginSlot_onPort hφ s _ _
      · rfl
    · rfl
  · rfl

theorem State.queueEmptied_onPort (s : State) : (s.onPort φ).queueEmptied = s.queueEmptied.onPort φ := by
  by_cases h : s.queue = [] ∧ s.drain.phase = .forced
  · rw [s.queueEmptied_of_emptied h, (s.onPort φ).queueEmptied_of_emptied h]
    rfl
  · rw [s.queueEmptied_of_not_emptied h, (s.onPort φ).queueEmptied_of_not_emptied h]

theorem State.queueEmptied_hpi (s : State) : s.queueEmptied.hpi = s.hpi := by
  unfold queueEmptied
  split <;> rfl

/-- R93: a completion up to what follows the freeing of its slots. -/
def State.headCompleted (s : State) (r : BatchRecord) (f : DrainFields) : State :=
  if r.flags.torn then
    ((((s.completed r f).setChain (foldChain s.chain (crc32cFinal f.crc))).queueEmptied).setEvent .batchDone).setEvent .batchTorn
  else (((s.completed r f).setChain (foldChain s.chain (crc32cFinal f.crc))).queueEmptied).setEvent .batchDone

theorem State.completeBatch_of_head {r : BatchRecord} {f : DrainFields} (h : s.drainingHead = some (r, f)) :
    s.completeBatch = (s.headCompleted r f).afterFreeing (s.freedCount (Slot.inBatch r.members)) := s.completeBatch_eq h

theorem State.headCompleted_hpi (s : State) (r : BatchRecord) (f : DrainFields) : (s.headCompleted r f).hpi = s.hpi := by
  have hemptied := State.queueEmptied_hpi ((s.completed r f).setChain (foldChain s.chain (crc32cFinal f.crc)))
  unfold headCompleted
  split
  · rw [setEvent_hpi, setEvent_hpi, hemptied, setChain_hpi, completed_hpi]
  · rw [setEvent_hpi, hemptied, setChain_hpi, completed_hpi]

theorem State.headCompleted_onPort (s : State) (r : BatchRecord) (f : DrainFields) :
    (s.onPort φ).headCompleted r f = (s.headCompleted r f).onPort φ := by
  have hcompleted : (s.onPort φ).completed r f = (s.completed r f).onPort φ := by
    have hpost (t : State) (l : CompletionLog) (q : List BatchRecord) : ((t.onPort φ).setLog l).setQueue q =
      ((t.setLog l).setQueue q).onPort φ := rfl
    have hidle (t : State) : (t.onPort φ).setActivity .idle = (t.setActivity .idle).onPort φ := rfl
    have hlog : (s.onPort φ).log = s.log := rfl
    have hqueue : (s.onPort φ).queue = s.queue := rfl
    have hcount : (s.onPort φ).drain = s.drain := rfl
    rw [completed, freeSlots_onPort, hlog, hqueue, hcount, hpost, retireMembers_onPort, hidle, completed]
  have hfolded (t : State) (c : BitVec 32) : (t.onPort φ).setChain c = (t.setChain c).onPort φ := rfl
  have hevent (t : State) (e : Event) : (t.onPort φ).setEvent e = (t.setEvent e).onPort φ := rfl
  have hchain : (s.onPort φ).chain = s.chain := rfl
  rw [headCompleted, hcompleted, hchain, hfolded, queueEmptied_onPort, hevent, hevent, ite_onPort, headCompleted]

theorem State.completeBatch_onPort (hh : s.HostApart φ) : (s.onPort φ).completeBatch = s.completeBatch.onPort φ := by
  cases h : s.drainingHead with
  | none =>
    have h' : (s.onPort φ).drainingHead = none := h
    rw [completeBatch, h', completeBatch, h]
  | some k =>
    rw [State.completeBatch_of_head (r := k.1) (f := k.2) h,
      State.completeBatch_of_head (s := s.onPort φ) (r := k.1) (f := k.2) h, headCompleted_onPort]
    exact State.afterFreeing_onPort (by rwa [HostApart, headCompleted_hpi]) _

theorem State.completeBatch_hostApart (hh : s.HostApart φ) : s.completeBatch.HostApart φ := by
  cases h : s.drainingHead with
  | none => rw [completeBatch, h]; exact hh
  | some k =>
    rw [State.completeBatch_of_head (r := k.1) (f := k.2) h]
    exact State.afterFreeing_hostApart (by rwa [HostApart, headCompleted_hpi]) _

theorem State.reserveHead_onPort (s : State) (r : BatchRecord) : (s.onPort φ).reserveHead r = (s.reserveHead r).onPort φ := by
  rw [reserveHead_eq, reserveHead_eq]
  rfl

theorem State.reserveHead_hpi (s : State) (r : BatchRecord) : (s.reserveHead r).hpi = s.hpi := by
  rw [reserveHead_eq]
  rfl

theorem State.waitForLog_onPort (s : State) : (s.onPort φ).waitForLog = s.waitForLog.onPort φ := by
  have hdrain : (s.onPort φ).drain = s.drain := rfl
  unfold waitForLog
  rw [hdrain]
  split <;> rfl

/-- R83 to R85, R94: what the engine starts does not depend on the grant. -/
theorem State.testStart_onPort (hφ : DrainBlind φ) (n : Nat) (s : State) (hh : s.HostApart φ) :
    State.testStart n (s.onPort φ) = (State.testStart n s).onPort φ := by
  induction n generalizing s with
  | zero => rfl
  | succ n ih =>
    cases hd : s.drain.activity.drains with
    | true => rw [State.testStart_of_drains _ hd, State.testStart_of_drains (s := s.onPort φ) _ hd]
    | false =>
      cases hs : s.startable with
      | false =>
        rw [State.testStart_of_not_startable n hd hs, State.testStart_of_not_startable (s := s.onPort φ) n hd hs]
        rfl
      | true =>
        cases hq : s.queue with
        | nil => rw [State.startable_of_nil hq] at hs; cases hs
        | cons r rest =>
          rw [State.testStart_of_startable n hd hq hs, State.testStart_of_startable (s := s.onPort φ) n hd hq hs]
          have hreserved : (s.reserveHead r).HostApart φ := by rwa [HostApart, reserveHead_hpi]
          rw [waitForLog_onPort, reserveHead_onPort, State.completeBatch_onPort hreserved, ih _ (State.completeBatch_hostApart hreserved),
            State.beginLine_onPort hφ, State.ite_onPort, State.ite_onPort]
          rfl

theorem State.startBatches_onPort (hφ : DrainBlind φ) (hh : s.HostApart φ) : (s.onPort φ).startBatches = s.startBatches.onPort φ :=
  State.testStart_onPort hφ _ s hh

/-! ## The port taken meanwhile (R115) -/

/-- The change that puts `p` on the port. -/
def Mpa.carry (p : Option PortTxn) (m : Mpa) : Mpa := { m with port := p }

theorem drainBlind_carry (p : Option PortTxn) : DrainBlind (Mpa.carry p) := fun _ _ _ => rfl

theorem hostBlind_carry (p : Option PortTxn) : HostBlind (Mpa.carry p) := fun _ _ => rfl

/-- R115: what joins a port that is taken meanwhile, and is then granted by turn, is what joins the port as it is. -/
theorem State.arbitrate_of_portTaken {op : State → State} (hop : ∀ (s : State) p, op (s.onPort (Mpa.carry p)) = (op s).onPort (Mpa.carry p))
    (s : State) : (op s).arbitrate = (op s.portTaken).thenGranted s.mpa.port := by
  have hport : (op s).mpa.port = s.mpa.port := by
    have hself : s.onPort (Mpa.carry s.mpa.port) = s := rfl
    have hcarried := hop s s.mpa.port
    rw [hself] at hcarried
    rw [hcarried]
    rfl
  have htaken : op s.portTaken = (op s).onPort (Mpa.carry (some (s.mpa.port.getD (.hostRead 0)))) := hop s _
  rw [htaken]
  cases hp : s.mpa.port with
  | none =>
    have hfree : (op s).mpa = { (op s).mpa with port := none } := by rw [← hp, ← hport]
    have hgrant : (op s).mpa.arbitrate = (Mpa.carry (some (.hostRead 0)) (op s).mpa).nextGrant := by
      rw [hfree, Mpa.free_arbitrate]
      cases hh : (op s).mpa.hostReq <;> cases hd : (op s).mpa.drainReq <;> cases hl : (op s).mpa.lastGrant <;>
        simp [Mpa.nextGrant, Mpa.carry, hh, hd, hl]
    exact congrArg (op s).setMpa hgrant
  | some x =>
    have hbusy : (op s).PortSettled := fun hnone => by rw [hport, hp] at hnone; cases hnone
    rw [State.arbitrate_settled _ hbusy]
    have hsame : (op s).mpa = Mpa.carry (some x) (op s).mpa := by rw [← hp, ← hport]; rfl
    exact congrArg (op s).setMpa hsame

end Sys2Proof.Machine
end

section
/-! The drain start (R58, R83 to R85, R94) and the completion of a batch (R93), field by field. -/

namespace Sys2Proof.Machine

variable {s : State}

/-! ## The start conditions (R83) -/

theorem State.headFits_iff (s : State) (r : BatchRecord) :
    s.headFits r = true ↔ ∀ p ∈ (drainOrder s.slots r.members).head?,
      if r.strict = true then r.bytes ≤ s.drain.remainder else ∀ x ∈ s.slotAt p, validCount x.cells ≤ s.drain.remainder := by
  unfold headFits
  cases (drainOrder s.slots r.members).head? with
  | none => simp
  | some p =>
    cases r.strict with
    | true => simp
    | false => cases hx : s.slotAt p <;> simp [hx]

theorem State.startable_iff (s : State) :
    s.startable = true ↔ ∃ r rest, s.queue = r :: rest ∧ r.isQueued = true ∧
      (s.drain.phase = .forced ∨ s.drain.phase = .quiet ∧ s.headFits r = true) := by
  unfold startable
  cases s.queue with
  | nil => simp
  | cons r rest => cases s.drain.phase <;> simp

/-! ## A head with lines (R85) -/

/-- R26: the slot at a place of the drain order is of the batch. -/
theorem State.inBatch_of_slotAt {ms : List Member} {p : Member × Nat} {x : Slot} (hp : p ∈ drainOrder s.slots ms)
    (hx : s.slotAt p = some x) : x.inBatch ms = true := by
  have hkey : x.hasKey p.1.window p.1.epoch p.2 = true := List.find?_some (p := (Slot.hasKey · p.1.window p.1.epoch p.2)) hx
  rw [Slot.hasKey, Bool.and_eq_true, Bool.and_eq_true] at hkey
  obtain ⟨⟨hw, he⟩, -⟩ := hkey
  exact List.any_eq_true.mpr ⟨p.1, ((mem_drainOrder _ _ _).mp hp).1, by rw [hw, he]; rfl⟩

/-- R85: the first line of a head that is started. -/
theorem State.reserveHead_beginLine {r : BatchRecord} {rest : List BatchRecord} {p : Member × Nat} {x : Slot} (hq : s.queue = r :: rest)
    (hp : (drainOrder s.slots r.members).head? = some p) (hx : s.slotAt p = some x) :
    (s.reserveHead r).beginLine = (s.reserveHead r).beginSlot p.1 { x with status := .draining } := by
  have hin := State.inBatch_of_slotAt (List.mem_of_mem_head? hp) hx
  refine State.beginLine_eq (s.reserveHead_drainingHead hq) hp ?_
  rw [reserveHead_slotAt, hx, Option.map_some, if_pos hin]

/-! ## Completion, field by field (R93) -/

/-- R42: the number of slots of the batch that a window holds. -/
def State.batchHeld (s : State) (ms : List Member) (w : WindowNo) : Nat := s.slots.countP fun x => x.inBatch ms && x.window = w

/-- R17, R42: an entry after a completion. -/
def State.entryCompleted (s : State) (r : BatchRecord) (w : WindowNo) : WindowEntry :=
  match s.win w with
  | .capturing d e k g => .capturing d e (k - s.batchHeld r.members w) g
  | .retiring d e k q =>
    if (r.members.any fun m => m.window = w) && q = r.seq then .idle d e else .retiring d e (k - s.batchHeld r.members w) q
  | y => y

theorem State.completed_entry (s : State) (r : BatchRecord) (f : DrainFields) (w : WindowNo) :
    (s.completed r f).win w = s.entryCompleted r w := by
  rw [completed_win]
  unfold entryCompleted batchHeld
  generalize List.countP _ _ = k
  cases s.win w <;> rfl

theorem State.completed_eq (s : State) (r : BatchRecord) (f : DrainFields) :
    s.completed r f =
      { s with
        slots := s.slots.filter fun x => !x.inBatch r.members
        log := { records := s.log.records ++ [drainedRecord r f s.drain.frameCount], reserved := false }
        queue := s.queue.tail
        windows := Vector.ofFn (s.entryCompleted r)
        drain := { s.drain with activity := .idle } } := by
  have hwindows : (s.completed r f).windows = Vector.ofFn (s.entryCompleted r) := by
    ext1 i hi
    rw [Vector.getElem_ofFn]
    exact s.completed_entry r f ⟨i, hi⟩
  have heta : s.completed r f = { s.completed r f with windows := (s.completed r f).windows } := rfl
  rw [heta, hwindows]
  simp [completed, retireMembers, freeSlots, CompletionLog.post]

/-- R93: the phase, the chain and the events after a completion. -/
theorem State.headCompleted_eq (s : State) (r : BatchRecord) (f : DrainFields) :
    s.headCompleted r f =
      { s with
        slots := s.slots.filter fun x => !x.inBatch r.members
        log := { records := s.log.records ++ [drainedRecord r f s.drain.frameCount], reserved := false }
        chain := foldChain s.chain (crc32cFinal f.crc)
        queue := s.queue.tail
        windows := Vector.ofFn (s.entryCompleted r)
        events := if r.flags.spanned || r.flags.forced then s.events ||| 0x006#11 else s.events ||| 0x002#11
        drain :=
          { s.drain with
            phase := if s.queue.tail = [] ∧ s.drain.phase = .forced then .closed else s.drain.phase
            activity := .idle } } := by
  have hboth (events : EventSet) : EventSet.with (EventSet.with events .batchDone) .batchTorn = events ||| 0x006#11 :=
    (BitVec.or_assoc ..).trans (congrArg (events ||| ·) (by decide))
  have hemptied (t : State) (c : BitVec 32) : (t.setChain c).queueEmptied =
      { t with
        chain := c
        drain := { t.drain with phase := if t.queue = [] ∧ t.drain.phase = .forced then .closed else t.drain.phase } } := by
    by_cases h : t.queue = [] ∧ t.drain.phase = .forced
    · rw [(t.setChain c).queueEmptied_of_emptied h, if_pos h]
      rfl
    · rw [(t.setChain c).queueEmptied_of_not_emptied h, if_neg h]
      rfl
  have hevents (t : State) : (if r.flags.torn then (t.setEvent .batchDone).setEvent .batchTorn else t.setEvent .batchDone) =
      { t with events := if r.flags.spanned || r.flags.forced then t.events ||| 0x006#11 else t.events ||| 0x002#11 } := by
    by_cases htorn : (r.flags.spanned || r.flags.forced) = true
    · rw [if_pos htorn, BatchFlags.torn, if_pos htorn, ← hboth]
      rfl
    · rw [if_neg htorn, BatchFlags.torn, if_neg htorn]
      rfl
  rw [headCompleted, hemptied, hevents, completed_eq]

/-! ## A head without lines (R94) -/

/-- R86: a batch without a line in the drain order has no slot. -/
theorem inBatch_of_no_lines {slots : List Slot} {ms : List Member} (h : drainOrder slots ms = []) :
    ∀ x ∈ slots, x.inBatch ms = false := by
  intro x hx
  rw [Bool.eq_false_iff]
  intro hin
  obtain ⟨m, hm, hkey⟩ := List.any_eq_true.mp hin
  have hline : (m, x.line) ∈ drainOrder slots ms := by
    refine (mem_drainOrder _ _ _).mpr ⟨hm, x, hx, ?_⟩
    rw [Slot.hasKey, hkey, Bool.true_and]
    exact decide_eq_true rfl
  rw [h] at hline
  cases hline

/-- R17: an entry after the retire notices of a batch that frees no slot. -/
def State.entryRetired (s : State) (r : BatchRecord) (w : WindowNo) : WindowEntry :=
  match s.win w with
  | .retiring d e n q => if (r.members.any fun m => m.window = w) && q = r.seq then .idle d e else .retiring d e n q
  | y => y

theorem State.entryCompleted_of_no_slots {r : BatchRecord} {w : WindowNo} (h : s.batchHeld r.members w = 0) :
    s.entryCompleted r w = s.entryRetired r w := by
  unfold entryCompleted entryRetired
  rw [h]
  cases s.win w <;> rfl

/-- R94: the state in which a head without lines has completed. -/
def State.emptyCompleted (s : State) (r : BatchRecord) (rest : List BatchRecord) : State :=
  { s with
    log :=
      { records := s.log.records ++
          [{ seq := r.seq, mask := memberMask r.members, outcome := .drained, flags := r.flags, intervals := r.intervals
             lines := 0, frameCount := s.drain.frameCount, bytes := 0, signature := 0x00000000#32 }]
        reserved := false }
    chain := crc32c (bytesOf s.chain ++ bytesOf 0x00000000#32)
    queue := rest
    windows := Vector.ofFn (s.entryRetired r)
    events := if r.flags.spanned || r.flags.forced then s.events ||| 0x006#11 else s.events ||| 0x002#11
    drain :=
      { s.drain with
        phase := if rest = [] ∧ s.drain.phase = .forced then .closed else s.drain.phase
        activity := .idle
        begun := false } }

/-- R85: the reservation of a head without lines changes the log, the head and the mark alone. -/
theorem State.reserveHead_of_no_lines {r : BatchRecord} {rest : List BatchRecord} (hq : s.queue = r :: rest)
    (hnone : drainOrder s.slots r.members = []) :
    s.reserveHead r =
      { s with
        log := { s.log with reserved := true }
        queue := { r with state := .draining { resume := none, lines := 0, bytes := 0, crc := crc32cInit } } :: rest
        drain := { s.drain with begun := false } } := by
  have hslots : changeSlots (Slot.inBatch r.members) (fun x => { x with status := .draining }) s.slots = s.slots := by
    refine (List.map_congr_left fun x hx => ?_).trans (List.map_id _)
    rw [inBatch_of_no_lines hnone x hx, if_neg Bool.false_ne_true]
    rfl
  rw [reserveHead_eq, hslots, hnone, hq]
  rfl

/-- R93, R94: a head without lines completes and frees nothing. -/
theorem State.completeBatch_of_no_lines {r : BatchRecord} {rest : List BatchRecord} (hq : s.queue = r :: rest)
    (hnone : drainOrder s.slots r.members = []) :
    (s.reserveHead r).completeBatch = (s.emptyCompleted r rest).releaseHeld := by
  have hslots := inBatch_of_no_lines hnone
  have hhead := s.reserveHead_drainingHead hq
  have hcount : s.slots.countP (Slot.inBatch r.members) = 0 :=
    List.countP_eq_zero.mpr fun x hx => by rw [hslots x hx]; exact Bool.false_ne_true
  have hfilter : (s.slots.filter fun x => !x.inBatch r.members) = s.slots :=
    List.filter_eq_self.mpr fun x hx => by rw [hslots x hx]; rfl
  have hentries (u : State) (state : BatchState) (hwin : ∀ w, u.win w = s.win w) (hu : u.slots = s.slots) :
      u.entryCompleted { r with state := state } = s.entryRetired r := by
    funext w
    have hheld : u.batchHeld r.members w = 0 :=
      List.countP_eq_zero.mpr fun x hx => by rw [hslots x (hu ▸ hx), Bool.false_and]; exact Bool.false_ne_true
    rw [State.entryCompleted_of_no_slots (r := { r with state := state }) hheld]
    unfold entryRetired
    rw [hwin]
  rw [hnone] at hhead
  rw [State.completeBatch_of_head hhead, headCompleted_eq, hentries _ _ (fun w => by rw [State.reserveHead_of_no_lines hq hnone]; rfl)
    (by rw [State.reserveHead_of_no_lines hq hnone]), State.reserveHead_of_no_lines hq hnone, freedCount]
  dsimp only
  rw [hcount, afterFreeing, if_neg (lt_irrefl 0), hfilter]
  rfl

/-! ## DRAIN_START (R83 to R85, R94, R115) -/

/-- R83: the start conditions tested by an engine that is not in WAIT_LOG, DRAIN_START or not. -/
theorem exec_drainStart_of_not_waitLog (hr : s.resetn = true) (hactivity : s.drain.activity ≠ .waitLog) (hport : s.PortSettled) :
    exec .drainStart s = .next s.startBatches.arbitrate := by
  cases hs : s.startable with
  | true => exact exec_drainStart_of_startable hr hs
  | false =>
    have hsame : s.startBatches = s := by
      cases hd : s.drain.activity.drains with
      | true => exact State.startBatches_of_drains hd
      | false =>
        have hidle : s.drain.activity = .idle := by
          cases ha : s.drain.activity with
          | idle => rfl
          | waitLog => exact absurd ha hactivity
          | writing l => rw [ha] at hd; cases hd
          | held => rw [ha] at hd; cases hd
        rw [State.startBatches_of_idle hd hs, State.setActivity, ← hidle]
        rfl
    rw [exec_drainStart hr, hs, if_neg Bool.false_ne_true, hsame, State.arbitrate_settled _ hport]

/-- An operation that does not see the grant leaves the port as it is. -/
theorem State.port_of_blind {op : State → State} (hop : ∀ (s : State) p, op (s.onPort (Mpa.carry p)) = (op s).onPort (Mpa.carry p))
    (s : State) : (op s).mpa.port = s.mpa.port := by
  have hself : s.onPort (Mpa.carry s.mpa.port) = s := rfl
  have hcarried := hop s s.mpa.port
  rw [hself] at hcarried
  rw [hcarried]
  rfl

theorem State.portSettled_of_taken {x : PortTxn} (h : s.mpa.port = some x) : s.PortSettled := fun hnone => by
  rw [h] at hnone
  cases hnone

/-- R110: the release of a held beat is the host path's. -/
theorem State.releaseHeld_frame (s : State) :
    s.releaseHeld.resetn = s.resetn ∧ s.releaseHeld.queue = s.queue ∧ s.releaseHeld.drain = s.drain := by
  unfold releaseHeld
  split
  next h hh =>
    obtain ⟨t, ht, -⟩ := (Hpi.held_eq_some _ _).mp hh
    split
    · rw [passWrite, s.setBeat_eq t _ ht]
      exact ⟨rfl, rfl, rfl⟩
    · exact ⟨rfl, rfl, rfl⟩
  next => exact ⟨rfl, rfl, rfl⟩

/-- R94, R110, R115: the release of a held beat and the next start, as commands at a port that is taken. -/
theorem execAll_release_start {x : PortTxn} (hr : s.resetn = true) (hport : s.mpa.port = some x)
    (hactivity : s.drain.activity ≠ .waitLog) :
    execAll [.heldBeatRelease, .drainStart] s = .next s.releaseHeld.startBatches := by
  have hrelease (t : State) (p : Option PortTxn) : (t.onPort (Mpa.carry p)).releaseHeld = t.releaseHeld.onPort (Mpa.carry p) :=
    State.releaseHeld_onPort (.inl (hostBlind_carry p))
  have hstart (t : State) (p : Option PortTxn) : (t.onPort (Mpa.carry p)).startBatches = t.startBatches.onPort (Mpa.carry p) :=
    State.startBatches_onPort (drainBlind_carry p) (.inl (hostBlind_carry p))
  obtain ⟨hr', -, hd'⟩ := s.releaseHeld_frame
  have hreleased : s.releaseHeld.mpa.port = some x := (State.port_of_blind hrelease s).trans hport
  have hstarted : s.releaseHeld.startBatches.mpa.port = some x := (State.port_of_blind hstart _).trans hreleased
  have hfirst : exec .heldBeatRelease s = .next s.releaseHeld := by
    rw [exec_heldBeatRelease hr, State.arbitrate_settled _ (State.portSettled_of_taken hreleased)]
  have hsecond : exec .drainStart s.releaseHeld = .next s.releaseHeld.startBatches := by
    rw [exec_drainStart_of_not_waitLog (hr'.trans hr) (by rwa [hd']) (State.portSettled_of_taken hreleased),
      State.arbitrate_settled _ (State.portSettled_of_taken hstarted)]
  rw [execAll_cons_next hfirst, execAll_cons_next hsecond]
  rfl

/-- Settles O56: the conditions, WAIT_LOG, the first line, and a head without lines with what joins the port after it. -/
theorem drainStartsTheHead : Obligations.DrainStartsTheHead := by
  unfold Obligations.DrainStartsTheHead
  intro s hr hport
  refine ⟨?conditions, ?nothing, ?started⟩
  case conditions =>
    simp only [State.startable_iff, State.headFits_iff]
  case nothing =>
    intro h
    rw [exec_drainStart hr]
    cases hs : s.startable with
    | false => rw [if_neg Bool.false_ne_true]
    | true =>
      have hdrains := h.resolve_left (by rw [hs]; exact Bool.noConfusion)
      rw [if_pos rfl, State.startBatches_of_drains hdrains, State.arbitrate_settled _ hport]
  case started =>
    intro r rest hq hs hidle
    have hexec := exec_drainStart_of_startable hr hs
    have hstart : s.startBatches = _ := State.testStart_of_startable s.queue.length (DrainActivity.drains_eq_false hidle) hq hs
    have hroom (h : s.log.records.length + s.log.reserved.toNat < 32) : s.log.freeEntries ≠ 0 := fun hzero => by
      have := s.log.freeEntries_eq_zero.mp hzero
      omega
    refine ⟨fun hfull => ?wait, fun hfree p x hp hx => ?first, fun hfree hnone => ?empty⟩
    case wait =>
      rw [if_pos (s.log.freeEntries_eq_zero.mpr hfull)] at hstart
      rw [hexec, hstart]
      refine congrArg Host.Outcome.next ?_
      rcases hidle with ha | ha
      · rw [State.waitForLog, ha, if_neg DrainActivity.noConfusion]
        exact State.arbitrate_settled ((s.setActivity .waitLog).setEvent .logFull) hport
      · rw [State.waitForLog, ha, if_pos rfl, State.arbitrate_settled s hport, ← ha]
    case first =>
      have hlines : drainOrder s.slots r.members ≠ [] := fun h => by rw [h] at hp; cases hp
      have hreserve : s.reserveHead r = _ := s.reserveHead_eq r
      rw [hp, hq] at hreserve
      rw [if_neg (hroom hfree), if_neg hlines, State.reserveHead_beginLine hq hp hx] at hstart
      rw [hexec, hstart, State.beginSlot_arbitrate _ _ _ (by rw [hreserve]; exact hport), hreserve]
      rfl
    case empty =>
      intro completed torn t
      let op (u : State) : State := u.releaseHeld.startBatches
      have hop (u : State) (p : Option PortTxn) : op (u.onPort (Mpa.carry p)) = (op u).onPort (Mpa.carry p) := by
        show (u.onPort (Mpa.carry p)).releaseHeld.startBatches = _
        rw [State.releaseHeld_onPort (.inl (hostBlind_carry p)),
          State.startBatches_onPort (drainBlind_carry p) (.inl (hostBlind_carry p))]
      have ht : t = s.emptyCompleted r rest := rfl
      have hlength : s.queue.length = t.releaseHeld.queue.length + 1 := by
        rw [t.releaseHeld_frame.2.1, hq]
        rfl
      rw [if_neg (hroom hfree), if_pos hnone, State.completeBatch_of_no_lines hq hnone, hlength] at hstart
      refine ⟨op t.portTaken, execAll_release_start hr rfl DrainActivity.noConfusion, ?_⟩
      rw [hexec, hstart]
      exact congrArg Host.Outcome.next (State.arbitrate_of_portTaken hop t)

end Sys2Proof.Machine
end

section
/-! The end of a batch's last line: completion, and what joins the port after it (R93, R94, R115). -/

namespace Sys2Proof.Machine

variable {s : State} {φ : Mpa → Mpa}

/-! ## The end of a line (R87) -/

/-- R87, R116, R130: the end of a line of the DRAINING head. -/
theorem State.endLine_eq {r : BatchRecord} {rest : List BatchRecord} {f : DrainFields} (hq : s.queue = r :: rest)
    (hf : r.state = .draining f) (l : LineInProgress) :
    s.endLine l =
      { s with
        queue :=
          { r with
            state := .draining
              { resume := lineAfter (l.member, l.line) (drainOrder s.slots r.members), lines := f.lines + 1
                bytes := f.bytes + validCount l.cells, crc := crc32cFold f.crc (lineStream l.line l.cells) } } :: rest
        slots := s.slots.map fun x =>
          if x.hasKey l.member.window l.member.epoch l.line then { x with written := true } else x
        mpa := { s.mpa with interlock := none } } := by
  unfold endLine
  rw [changeHead_eq, hq, List.modifyHead_cons, hf]
  rfl

/-- R116: a beat at the interlock is issued or not; in either case only the host path's part of the state changes. -/
theorem State.tryIssue_frame (s : State) :
    s.tryIssue.queue = s.queue ∧ s.tryIssue.log = s.log ∧ s.tryIssue.chain = s.chain ∧ s.tryIssue.drain = s.drain ∧
      s.tryIssue.resetn = s.resetn ∧ s.tryIssue.mpa.port = s.mpa.port := by
  unfold tryIssue
  split
  next t ht =>
    split
    · split
      · exact ⟨rfl, rfl, rfl, rfl, rfl, rfl⟩
      · rw [issuePass, State.setBeat_eq _ t _ (by exact ht)]
        exact ⟨rfl, rfl, rfl, rfl, rfl, rfl⟩
    · exact ⟨rfl, rfl, rfl, rfl, rfl, rfl⟩
  next => exact ⟨rfl, rfl, rfl, rfl, rfl, rfl⟩

theorem State.tryIssue_pending (s : State) : s.tryIssue.pending = s.pending :=
  (s.aside_frame (f := State.tryIssue) fun x p => s.tryIssue_aside x p).2

/-- R115, R116: the issue of a beat at the interlock does not depend on the grant. -/
theorem State.tryIssue_onPort (hφ : HostBlind φ) (hi : ∀ m, (φ m).interlock = m.interlock) (s : State) :
    (s.onPort φ).tryIssue = s.tryIssue.onPort φ := by
  have hhpi : (s.onPort φ).hpi = s.hpi := rfl
  have hline : (s.onPort φ).mpa.interlock = s.mpa.interlock := hi s.mpa
  unfold tryIssue
  rw [hhpi, hline]
  split
  · split
    next p _ =>
      split
      · rfl
      · exact State.passWrite_onPort hφ
          (((s.setSlots (passUpdate p.window p.addr p.wd p.be s.slots)).markGroup p.window GroupFlags.setBypassed).setEvent
            .writeBypassed) p.addr p.wd p.be
    · rfl
  · rfl

/-- R46: the retry of a held beat is the host path's and the store's. -/
theorem State.retryAfter_frame (s : State) (m : Nat) :
    (s.retryAfter m).resetn = s.resetn ∧ (s.retryAfter m).drain = s.drain := by
  have hstage {w a wd be} {u : State} (hu : s.stage w a wd be = some u) : u.resetn = s.resetn ∧ u.drain = s.drain ∧ u.hpi = s.hpi := by
    obtain ⟨d, e, held, g, -, ⟨x, -, rfl⟩ | ⟨-, -, -, rfl⟩⟩ := s.stage_cases u w a wd be hu <;> exact ⟨rfl, rfl, rfl⟩
  unfold retryAfter
  split
  · unfold retryHeld
    split
    next h hh =>
      obtain ⟨t, ht, -⟩ := (Hpi.held_eq_some _ _).mp hh
      split
      · exact ⟨rfl, rfl⟩
      · split
        · split
          next u hu =>
            obtain ⟨hr, hd, hhpi⟩ := hstage hu
            rw [u.answerBeat_eq t _ _ (hhpi ▸ ht)]
            exact ⟨hr, hd⟩
          next => exact ⟨rfl, rfl⟩
        · rw [s.setBeat_eq t _ ht]
          exact ⟨rfl, rfl⟩
        · rw [passWrite, s.setBeat_eq t _ ht]
          exact ⟨rfl, rfl⟩
        · exact ⟨rfl, rfl⟩
    next => exact ⟨rfl, rfl⟩
  · exact ⟨rfl, rfl⟩

/-! ## A WIPE taken together with the completion (R73) -/

/-- Table 8-3: bits 5 and 4 of header byte 1. -/
theorem State.bringsWipe_iff (s : State) (i : Instr) :
    s.bringsWipe i = true ↔ s.slc.responses.length < 8 ∧ s.slc.wipeTaken = false ∧
      ((∃ ch tag a, i = .wipe ch tag (.short a)) ∨
        ∃ b1 b2, s.slc.assembler = .header [0x05#8, b1, b2] ∧ b1.getLsbD 5 = false ∧ b1.getLsbD 4 = false ∧
          i = .byteReceived (crc8 [0x05#8, b1, b2])) := by
  unfold bringsWipe
  rw [Bool.and_eq_true, Bool.and_eq_true, decide_eq_true_eq, Bool.not_eq_true', and_assoc]
  refine and_congr_right fun _ => and_congr_right fun _ => ?_
  split
  next ch tag a => simp
  next b =>
    have hbyte : (∃ ch tag a, Instr.byteReceived b = .wipe ch tag (.short a)) ↔ False := by simp
    rw [hbyte, false_or]
    split
    next b0 b1 b2 ha =>
      simp only [ha, Assembler.header.injEq, List.cons.injEq, and_true, Bool.and_eq_true, decide_eq_true_eq, Bool.not_eq_true',
        Instr.byteReceived.injEq, longFlag, reservedFlag]
      constructor
      · rintro ⟨⟨⟨rfl, hc⟩, hl⟩, hr⟩
        exact ⟨b1, b2, ⟨rfl, rfl, rfl⟩, hl, hr, hc.symm⟩
      · rintro ⟨_, _, ⟨rfl, rfl, rfl⟩, hl, hr, hc⟩
        exact ⟨⟨⟨rfl, hc.symm⟩, hl⟩, hr⟩
    next hnot =>
      refine iff_of_false Bool.false_ne_true ?_
      rintro ⟨b1, b2, ha, -⟩
      exact hnot _ _ _ ha
  next hwipe hbyte =>
    refine iff_of_false Bool.false_ne_true ?_
    rintro (⟨ch, tag, a, rfl⟩ | ⟨b1, b2, -, -, -, rfl⟩)
    · exact hwipe _ _ _ rfl
    · exact hbyte _ rfl

theorem State.wipeNext_iff (hw : s.slc.wipeTaken = false) :
    s.wipeNext = true ↔ s.slc.responses.length < 8 ∧
      ((∃ ch tag a later, s.pending = .wipe ch tag (.short a) :: later) ∨
        ∃ b1 b2 later, s.slc.assembler = .header [0x05#8, b1, b2] ∧ b1.getLsbD 5 = false ∧ b1.getLsbD 4 = false ∧
          s.pending = .byteReceived (crc8 [0x05#8, b1, b2]) :: later) := by
  rw [wipeNext]
  cases hp : s.pending with
  | nil => simp
  | cons i later =>
    rw [List.head?_cons, Option.any_some, bringsWipe_iff]
    simp [hw]

/-! ## The answer that ends a line (R87 to R89) -/

/-- R87: the drain fields of a batch one line on. -/
def DrainFields.lineOn (f : DrainFields) (l : LineInProgress) (next : Option (Member × Nat)) : DrainFields :=
  { resume := next, lines := f.lines + 1, bytes := f.bytes + validCount l.cells, crc := crc32cFold f.crc (lineStream l.line l.cells) }

/-- R87, R89: the head one line on, its answer noted. -/
def BatchRecord.lineOn (r : BatchRecord) (err : Bool) (f : DrainFields) (l : LineInProgress) (next : Option (Member × Nat)) :
    BatchRecord :=
  { r with flags := { r.flags with memError := r.flags.memError || err }, state := .draining (f.lineOn l next) }

/-- R87, R89, R116: the state in which the line in progress has ended, with the port as it is. -/
def State.lineOn (s : State) (err : Bool) (l : LineInProgress) (r : BatchRecord) (rest : List BatchRecord) : State :=
  { s with
    events := if err then s.events ||| 0x100#11 else s.events
    queue := r :: rest
    slots := s.slots.map fun x => if x.hasKey l.member.window l.member.epoch l.line then { x with written := true } else x
    mpa := { s.mpa with interlock := none } }

section
variable {run : DrainRun} {n : Nat} {l : LineInProgress} {r : BatchRecord} {rest : List BatchRecord} {f : DrainFields}

theorem exec_lastBeat (err : Bool) (rd : Word) (hr : s.resetn = true) (hport : s.mpa.port = some (.drainRun run n))
    (hlast : run.beats.length ≤ n + 1) (ha : s.drain.activity = .writing l) (hruns : l.runs = []) :
    exec (.memoryBeatAnswer err rd) s = .next ((((s.noteDrainError err).setMpa { s.mpa with port := none }).lineEnd l).arbitrate) := by
  obtain ⟨-, hdrain⟩ := s.noteDrainError_frame err
  rw [exec_memoryBeatAnswer err rd hr, State.memoryAnswer_drainRun hport, if_neg (by omega)]
  simp only [State.runDone, State.setMpa_drain, hdrain, ha, hruns]

theorem State.endLine_noted (err : Bool) (hq : s.queue = r :: rest) (hf : r.state = .draining f) :
    ((s.noteDrainError err).setMpa { s.mpa with port := none }).endLine l =
      (s.lineOn err l (r.lineOn err f l (lineAfter (l.member, l.line) (drainOrder s.slots r.members))) rest).onPort (Mpa.carry none) := by
  cases err with
  | false =>
    have hflags : r.flags = { r.flags with memError := r.flags.memError || false } := by rw [Bool.or_false]
    have hend := State.endLine_eq (s := s.setMpa { s.mpa with port := none }) hq hf l
    rw [noteDrainError_eq, if_neg Bool.false_ne_true, hend, BatchRecord.lineOn, ← hflags]
    rfl
  | true =>
    have hflags : ({ r.flags with memError := true } : BatchFlags) = { r.flags with memError := r.flags.memError || true } := by
      rw [Bool.or_true]
    have hq' : (s.queue.modifyHead fun x => { x with flags := { x.flags with memError := true } }) =
        { r with flags := { r.flags with memError := true } } :: rest := by rw [hq]; rfl
    let noted : State :=
      { s with events := s.events ||| 0x100#11, queue := { r with flags := { r.flags with memError := true } } :: rest }
    have hend := State.endLine_eq (s := noted.setMpa { s.mpa with port := none }) (rest := rest) rfl hf l
    rw [noteDrainError_eq, if_pos rfl, hq', BatchRecord.lineOn, ← hflags]
    exact hend

end

/-! ## The end of the last line (R88, R93, R94, R115) -/

/-- R73, R94: a completion, and the next start unless a WIPE comes between. -/
def State.batchDone (wipeNext : Bool) (s : State) : State := if wipeNext then s.completeBatch else s.completeBatch.startBatches

theorem State.afterLine_of_last {r : BatchRecord} {f : DrainFields} (hd : s.drainingHead = some (r, f)) (hf : f.resume = none)
    (wipeNext : Bool) : s.afterLine wipeNext = s.batchDone wipeNext := by
  simp only [afterLine, hd, hf, batchDone]

theorem State.batchDone_onPort (wipeNext : Bool) (s : State) (p : Option PortTxn) :
    (s.onPort (Mpa.carry p)).batchDone wipeNext = (s.batchDone wipeNext).onPort (Mpa.carry p) := by
  have hblind : HostBlind (Mpa.carry p) := hostBlind_carry p
  unfold batchDone
  rw [State.completeBatch_onPort (.inl hblind), State.startBatches_onPort (drainBlind_carry p) (.inl hblind), State.ite_onPort]

/-- R115: a port freed at the end of a transaction is granted by turn, whatever it carried. -/
theorem State.carryNone_arbitrate (s : State) : (s.onPort (Mpa.carry none)).arbitrate = { s with mpa := s.mpa.nextGrant } := by
  rw [← Mpa.free_arbitrate]
  rfl

/-- R46, R94, R110, R115: retry, release and next start, as commands at a port that is taken. -/
theorem execAll_after_completion {x : PortTxn} {m : Nat} {retry wipeNext : Bool} (hretry : retry = true ↔ 0 < m) (hr : s.resetn = true)
    (hport : s.mpa.port = some x) (hactivity : s.drain.activity ≠ .waitLog) :
    execAll ((if retry then [.heldBeatRetry] else []) ++ [.heldBeatRelease] ++ (if wipeNext then [] else [.drainStart])) s =
      .next (if wipeNext then s.afterFreeing m else (s.afterFreeing m).startBatches) := by
  have hblind (p : Option PortTxn) (t : State) : t.HostApart (Mpa.carry p) := .inl (hostBlind_carry p)
  have hretried : (s.retryAfter m).mpa.port = some x := by
    unfold State.retryAfter
    split
    · exact (State.port_of_blind (fun t p => State.retryHeld_onPort (hblind p t)) s).trans hport
    · exact hport
  have hreleased : (s.retryAfter m).releaseHeld.mpa.port = some x :=
    (State.port_of_blind (fun t p => State.releaseHeld_onPort (hblind p t)) _).trans hretried
  have hframe : (s.retryAfter m).resetn = s.resetn ∧ (s.retryAfter m).drain = s.drain := s.retryAfter_frame m
  have hfirst : execAll (if retry then [.heldBeatRetry] else []) s = .next (s.retryAfter m) := by
    have hcommand : (if retry then [Instr.heldBeatRetry] else []) = if 0 < m then [.heldBeatRetry] else [] := if_congr hretry rfl rfl
    rw [hcommand, State.execAll_retryAfter hr (State.portSettled_of_taken hport),
      State.arbitrate_settled _ (State.portSettled_of_taken hretried)]
  rw [List.append_assoc, execAll_append_next hfirst]
  cases wipeNext with
  | false => exact execAll_release_start (hframe.1.trans hr) hretried (by rwa [hframe.2])
  | true =>
    have hsecond : exec .heldBeatRelease (s.retryAfter m) = .next (s.retryAfter m).releaseHeld := by
      rw [exec_heldBeatRelease (hframe.1.trans hr), State.arbitrate_settled _ (State.portSettled_of_taken hreleased)]
    exact execAll_cons_next hsecond

/-- Settles O59: the line's end, the issue at the interlock, the completion, and what joins the port after it. -/
theorem lastLineCompletesTheBatch : Obligations.LastLineCompletesTheBatch := by
  unfold Obligations.LastLineCompletesTheBatch
  intro err rd run n l r f rest s hr hport hdrainReq hlast ha hruns hq hf hnext hwipe
  refine ⟨State.wipeNext_iff hwipe, ?_⟩
  intro inBatch flags signature completed noted t
  have ht : t = s.lineOn err l (r.lineOn err f l none) rest := rfl
  have htport : t.mpa.port = some (.drainRun run n) := hport
  obtain ⟨hqueue, hlog, hchain, hdrain, hresetn, huport⟩ := t.tryIssue_frame
  refine ⟨t.tryIssue, ?issued, ?_⟩
  case issued =>
    rw [exec_passWriteIssue (show t.resetn = true from hr), State.arbitrate_settled _ (State.portSettled_of_taken (huport.trans htport))]
  intro held v
  have hv : t.tryIssue.headCompleted (r.lineOn err f l none) (f.lineOn l none) = v := by
    rw [State.headCompleted_eq, hqueue, hlog, hchain, hdrain]
    rfl
  have hhead : t.tryIssue.drainingHead = some (r.lineOn err f l none, f.lineOn l none) := by
    rw [State.drainingHead, hqueue]
    rfl
  have hslots : t.tryIssue.slots.any inBatch = true ↔ 0 < t.tryIssue.freedCount (Slot.inBatch r.members) := by
    rw [State.freedCount, List.countP_pos_iff, List.any_eq_true]
    rfl
  have hdone : t.tryIssue.batchDone s.wipeNext =
      if s.wipeNext then v.afterFreeing (t.tryIssue.freedCount (Slot.inBatch r.members))
      else (v.afterFreeing (t.tryIssue.freedCount (Slot.inBatch r.members))).startBatches := by
    rw [State.batchDone, State.completeBatch_of_head hhead, hv]
    rfl
  refine ⟨t.tryIssue.batchDone s.wipeNext, ?commands, ?answer⟩
  case commands =>
    rw [hdone]
    exact execAll_after_completion hslots (hresetn.trans hr) (huport.trans htport) DrainActivity.noConfusion
  case answer =>
    have hissue : ((s.noteDrainError err).setMpa { s.mpa with port := none }).endLine l = t.onPort (Mpa.carry none) := by
      rw [State.endLine_noted err hq hf, hnext]
      rfl
    have hslc : (t.tryIssue.onPort (Mpa.carry none)).slc = s.slc := t.tryIssue_slc
    have hpending : (t.tryIssue.onPort (Mpa.carry none)).pending = s.pending := t.tryIssue_pending
    have hwipeNext : (t.tryIssue.onPort (Mpa.carry none)).wipeNext = s.wipeNext := by
      unfold State.wipeNext State.bringsWipe
      rw [hslc, hpending]
    have hafter := State.afterLine_of_last (s := t.tryIssue.onPort (Mpa.carry none)) hhead rfl
    rw [exec_lastBeat err rd hr hport hlast ha hruns, State.lineEnd, hissue,
      State.tryIssue_onPort (hostBlind_carry none) (fun _ => rfl), hslc, hwipe, if_neg Bool.false_ne_true, hwipeNext, hafter,
      State.batchDone_onPort, State.carryNone_arbitrate]

end Sys2Proof.Machine
end

section
/-! What the requests behind a WIPE do with a port whose host request stands to be granted: an early grant and a late one agree. -/

namespace Sys2Proof.Machine

variable {s : State} {φ : Mpa → Mpa}

/-! ## The grant that is due to the host path (R115) -/

/-- The host path's request granted. -/
def Mpa.grantHost (x : PortTxn) (m : Mpa) : Mpa := { m with port := some x, hostReq := none, lastGrant := .host }

theorem drainBlind_grantHost (x : PortTxn) : DrainBlind (Mpa.grantHost x) := fun _ _ _ => rfl

/-- R115: the port is free, and the host path's request is next in turn. -/
def State.HostNext (s : State) (x : PortTxn) : Prop := s.mpa.port = none ∧ s.mpa.hostReq = some x ∧ s.mpa.lastGrant = .drain

theorem State.HostNext.arbitrate {x : PortTxn} (h : s.HostNext x) : s.arbitrate = s.onPort (Mpa.grantHost x) := by
  obtain ⟨hport, hhost, hlast⟩ := h
  refine congrArg s.setMpa ?_
  unfold Mpa.arbitrate
  rw [hport, hhost, hlast]
  cases hdrain : s.mpa.drainReq with
  | none => rw [Mpa.grantHost, hdrain]
  | some r => rw [Mpa.grantHost, hdrain]

theorem State.grantHost_arbitrate (s : State) (x : PortTxn) :
    (s.onPort (Mpa.grantHost x)).arbitrate = s.onPort (Mpa.grantHost x) :=
  State.arbitrate_settled _ (State.portSettled_of_taken rfl)

/-- R115: with no drain run waiting a free port has nothing to grant or is the host path's. -/
theorem State.arbitrate_or_hostNext (hport : s.mpa.port = none) (hdrain : s.mpa.drainReq = none) (hlast : s.mpa.lastGrant = .drain) :
    s.arbitrate = s ∨ ∃ x, s.HostNext x := by
  cases hhost : s.mpa.hostReq with
  | none => exact .inl (State.arbitrate_settled _ fun _ => ⟨hhost, hdrain⟩)
  | some x => exact .inr ⟨x, hport, hhost, hlast⟩

/-- R115, R116: a line begun before the host path's grant is made, or after. -/
theorem State.beginSlot_arbitrate_early (hport : s.mpa.port = none) (hdrain : s.mpa.drainReq = none) (hlast : s.mpa.lastGrant = .drain)
    (m : Member) (x : Slot) : (s.beginSlot m x).arbitrate = s.arbitrate.lineBegun m x := by
  rw [← State.beginSlot_arbitrate _ m x s.arbitrate_portSettled]
  rcases State.arbitrate_or_hostNext hport hdrain hlast with hsame | ⟨w, hnext⟩
  · rw [hsame]
  · have hnext' : (s.beginSlot m x).HostNext w := by
      unfold beginSlot
      rw [changeHead_eq]
      exact hnext
    rw [hnext.arbitrate, State.beginSlot_onPort (drainBlind_grantHost w), hnext'.arbitrate, State.grantHost_arbitrate]

/-! ## Operations that do not see the grant while no beat is held -/

/-- What the operation does does not depend on the grant where no beat is held, and it holds none. -/
structure GrantBlind (op : State → State) : Prop where
  onPort : ∀ φ, DrainBlind φ → ∀ s : State, s.hpi.held = none → op (s.onPort φ) = (op s).onPort φ
  held : ∀ s : State, s.hpi.held = none → (op s).hpi.held = none

namespace GrantBlind

variable {op op' : State → State}

theorem comp (h : GrantBlind op) (h' : GrantBlind op') : GrantBlind fun s => op' (op s) where
  onPort φ hφ s hs := by rw [h.onPort φ hφ s hs, h'.onPort φ hφ _ (h.held s hs)]
  held s hs := h'.held _ (h.held s hs)

/-- The choice between two such operations is one where the choice does not see the grant. -/
theorem ite {c : State → Prop} [∀ s, Decidable (c s)] (hc : ∀ (s : State) φ, c (s.onPort φ) ↔ c s) (h : GrantBlind op)
    (h' : GrantBlind op') : GrantBlind fun s => if c s then op s else op' s where
  onPort φ hφ s hs := by
    by_cases hcs : c s
    · rw [if_pos hcs, if_pos ((hc s φ).mpr hcs), h.onPort φ hφ s hs]
    · rw [if_neg hcs, if_neg (fun h => hcs ((hc s φ).mp h)), h'.onPort φ hφ s hs]
  held s hs := by
    by_cases hcs : c s
    · rw [if_pos hcs]; exact h.held s hs
    · rw [if_neg hcs]; exact h'.held s hs

theorem id : GrantBlind fun s => s := ⟨fun _ _ _ _ => rfl, fun _ hs => hs⟩

/-- The grant, the host path's request and the turn stay as they are. -/
theorem hostNext (h : GrantBlind op) {x : PortTxn} (hs : s.HostNext x) (hheld : s.hpi.held = none) : (op s).HostNext x := by
  obtain ⟨hport, hhost, hlast⟩ := hs
  let φ (m : Mpa) : Mpa := { m with port := none, hostReq := some x, lastGrant := .drain }
  have hself : s.onPort φ = s := by
    have hmpa : φ s.mpa = s.mpa := by
      show ({ s.mpa with port := none, hostReq := some x, lastGrant := .drain } : Mpa) = s.mpa
      rw [← hport, ← hhost, ← hlast]
    rw [State.onPort, hmpa]
    rfl
  have hkeep := h.onPort φ (fun _ _ _ => rfl) s hheld
  rw [hself] at hkeep
  rw [hkeep]
  exact ⟨rfl, rfl, rfl⟩

end GrantBlind

/-! ## An early and a late grant -/

/-- The same state, or the second with the host path's grant made that is due in the first. -/
def State.Granted (x : PortTxn) (a b : State) : Prop := b = a ∨ b = a.onPort (Mpa.grantHost x) ∧ a.HostNext x ∧ a.hpi.held = none

theorem State.Granted.arbitrate {x : PortTxn} {a b : State} (h : State.Granted x a b) : a.arbitrate = b.arbitrate := by
  rcases h with rfl | ⟨rfl, hnext, -⟩
  · rfl
  · rw [State.grantHost_arbitrate, hnext.arbitrate]

theorem GrantBlind.granted {op : State → State} (h : GrantBlind op) {x : PortTxn} {a b : State} (hab : State.Granted x a b) :
    State.Granted x (op a) (op b) := by
  rcases hab with rfl | ⟨rfl, hnext, hheld⟩
  · exact .inl rfl
  · exact .inr ⟨h.onPort _ (drainBlind_grantHost x) a hheld, h.hostNext hnext hheld, h.held a hheld⟩

/-- An operation that ends in a grant leaves the two the same. -/
theorem GrantBlind.arbitrated {op : State → State} (h : GrantBlind op) {x : PortTxn} {a b : State} (hab : State.Granted x a b) :
    State.Granted x (op a).arbitrate (op b).arbitrate :=
  .inl (h.granted hab).arbitrate.symm

/-! ## The blocks' operations -/

theorem grantBlind_setSlc (f : State → Slc) (hf : ∀ (s : State) φ, f (s.onPort φ) = f s) : GrantBlind fun s => s.setSlc (f s) where
  onPort φ _ s _ := by rw [hf]; rfl
  held _ hs := hs

theorem State.completeBatch_held (h : s.hpi.held = none) : s.completeBatch.hpi.held = none := by
  cases hd : s.drainingHead with
  | none => rw [completeBatch, hd]; exact h
  | some k =>
    have hdone : (s.headCompleted k.1 k.2).hpi.held = none := by rw [headCompleted_hpi, h]
    rw [State.completeBatch_of_head (r := k.1) (f := k.2) hd, State.afterFreeing_of_none _ hdone, hdone]

theorem State.beginLine_hpi (s : State) : s.beginLine.hpi = s.hpi := by
  unfold beginLine
  split
  · split
    · split
      · rw [beginSlot, changeHead_eq]; rfl
      · rfl
    · rfl
  · rfl

theorem grantBlind_startBatches : GrantBlind State.startBatches where
  onPort _ hφ _ hs := State.startBatches_onPort hφ (.inr hs)
  held s hs := by
    have hkeep (n : Nat) (t : State) (ht : t.hpi.held = none) : (State.testStart n t).hpi.held = none := by
      induction n generalizing t with
      | zero => exact ht
      | succ n ih =>
        cases hd : t.drain.activity.drains with
        | true => rw [State.testStart_of_drains _ hd]; exact ht
        | false =>
          cases hstart : t.startable with
          | false => rw [State.testStart_of_not_startable n hd hstart]; exact ht
          | true =>
            cases hq : t.queue with
            | nil => rw [State.startable_of_nil hq] at hstart; cases hstart
            | cons r rest =>
              have hreserved : (t.reserveHead r).hpi.held = none := by rw [State.reserveHead_hpi, ht]
              rw [State.testStart_of_startable n hd hq hstart]
              split
              · rw [State.waitForLog]
                split <;> exact ht
              · split
                · exact ih _ (State.completeBatch_held hreserved)
                · rw [State.beginLine_hpi, hreserved]
    exact hkeep _ s hs

theorem grantBlind_setTimer (f : State → StarvationTimer) (hf : ∀ (s : State) φ, f (s.onPort φ) = f s) :
    GrantBlind fun s => s.setTimer (f s) where
  onPort φ _ s _ := by rw [hf]; rfl
  held _ hs := hs

theorem grantBlind_proceed : GrantBlind State.proceed where
  onPort φ hφ s hs := by
    have hdrain : (s.onPort φ).drain = s.drain := rfl
    unfold State.proceed
    rw [hdrain]
    split
    · exact State.beginLine_onPort hφ s
    · rfl
    · exact State.startBatches_onPort hφ (.inr hs)
    · exact State.startBatches_onPort hφ (.inr hs)
  held s hs := by
    unfold State.proceed
    split
    · rw [State.beginLine_hpi, hs]
    · exact hs
    · exact grantBlind_startBatches.held s hs
    · exact grantBlind_startBatches.held s hs

theorem grantBlind_expireStarvation : GrantBlind State.expireStarvation := by
  have hstarved : GrantBlind State.starved := ⟨fun _ _ _ _ => rfl, fun _ hs => hs⟩
  have hforced : GrantBlind State.forcedBegun := ⟨fun _ _ _ _ => rfl, fun _ hs => hs⟩
  exact .ite (c := fun s => s.config.forceEnable = true) (fun _ _ => Iff.rfl) (hforced.comp grantBlind_proceed) hstarved

theorem grantBlind_applyForce : GrantBlind State.applyForce := by
  have hended : GrantBlind State.endForced := by
    constructor
    · intro φ _ s _
      have hdrain : (s.onPort φ).drain = s.drain := rfl
      have hleft (l : LineInProgress) : (s.onPort φ).linesLeft l = s.linesLeft l := rfl
      have hflag : ((s.onPort φ).setPhase .closed).flagHead BatchFlags.setSpanned =
          ((s.setPhase .closed).flagHead BatchFlags.setSpanned).onPort φ := (s.setPhase .closed).changeHead_onPort _
      unfold State.endForced
      rw [hdrain]
      dsimp only
      split
      · rfl
      next l _ =>
        rw [hleft, hflag]
        split <;> rfl
      · rfl
    · intro s hs
      unfold State.endForced
      dsimp only
      split
      · exact hs
      · split
        · rw [State.flagHead, State.changeHead_eq]; exact hs
        · exact hs
      · exact hs
  exact .ite (c := fun s => (!s.config.forceEnable && s.drain.phase = .forced) = true) (fun _ _ => Iff.rfl) hended .id

theorem grantBlind_applyStarvationLimit (old : BitVec 16) : GrantBlind (State.applyStarvationLimit · old) :=
  .ite (c := fun s => s.config.starvationLimit = 0#16) (fun _ _ => Iff.rfl) (grantBlind_setTimer _ fun _ _ => rfl) <|
    .ite (c := fun s => s.config.starvationLimit ≠ old ∧ s.timerRuns ∧ s.starvationDue) (fun _ _ => Iff.rfl)
      grantBlind_expireStarvation .id

theorem grantBlind_applyStallLimit (old : BitVec 16) : GrantBlind (State.applyStallLimit · old) := by
  have hnone {s : State} (hs : s.hpi.held = none) : s.applyStallLimit old = s := by rw [State.applyStallLimit, hs]
  exact ⟨fun φ _ s hs => by rw [hnone hs, hnone (s := s.onPort φ) hs], fun s hs => by rw [hnone hs]; exact hs⟩

theorem grantBlind_abortGroup (w : WindowNo) : GrantBlind (State.abortGroup · w) where
  onPort φ _ s _ := by
    have hwin (t : State) : (t.onPort φ).win w = t.win w := rfl
    have hepoch (t : State) (e : Epoch) : (t.onPort φ).nextEpoch w e = t.nextEpoch w e := rfl
    unfold State.abortGroup
    rw [State.freeSlots_onPort]
    generalize s.freeSlots (Slot.openOf w) = t
    dsimp only
    rw [hwin]
    split
    · rw [hepoch]
      rfl
    · rfl
  held s hs := by
    have hfreed : (s.freeSlots (Slot.openOf w)).hpi = s.hpi := by simp [State.freeSlots]
    have hnone := (congrArg Hpi.held hfreed).trans hs
    unfold State.abortGroup
    generalize s.freeSlots (Slot.openOf w) = t at hnone
    dsimp only
    split
    · exact hnone
    · exact hnone

theorem grantBlind_retryAfter (n : Nat) : GrantBlind (State.retryAfter · n) := by
  have hnone {s : State} (hs : s.hpi.held = none) : s.retryAfter n = s := by
    rw [State.retryAfter, State.retryHeld_of_none hs, ite_self]
  exact ⟨fun φ _ s hs => by rw [hnone hs, hnone (s := s.onPort φ) hs], fun s hs => by rw [hnone hs]; exact hs⟩

theorem grantBlind_afterFreeing (n : Nat) : GrantBlind (State.afterFreeing · n) where
  onPort φ _ s hs := State.afterFreeing_onPort (.inr hs) n
  held s hs := by rw [State.afterFreeing_of_none n hs, hs]

theorem grantBlind_closeBatch (retire : Bool) (ws : List WindowNo) : GrantBlind (State.closeBatch · retire ws) where
  onPort φ _ s _ := by
    unfold State.closeBatch
    dsimp only
    exact State.mapWindows_onPort (((s.setNextSeq _).setSlots _).setQueue _) _
  held _ hs := hs

theorem grantBlind_removeBatch (r : BatchRecord) : GrantBlind (State.removeBatch · r) where
  onPort φ _ s _ := by
    have hfreed : ((s.onPort φ).setQueue (s.queue.eraseP fun x => x.seq = r.seq)).freeSlots (Slot.inBatch r.members) =
        ((s.setQueue (s.queue.eraseP fun x => x.seq = r.seq)).freeSlots (Slot.inBatch r.members)).onPort φ :=
      (s.setQueue _).freeSlots_onPort _
    have hretire (t : State) : (t.onPort φ).cancelRetire r.members r.seq = (t.cancelRetire r.members r.seq).onPort φ :=
      t.mapWindows_onPort _
    have hqueue : (s.onPort φ).queue = s.queue := rfl
    unfold State.removeBatch
    rw [hqueue, hfreed]
    generalize State.freeSlots _ _ = t
    exact hretire (t.setLog (t.log.post (cancelledRecord r s.drain.frameCount)))
  held s hs := by rw [State.removeBatch_hpi, hs]

theorem grantBlind_queueEmptied : GrantBlind State.queueEmptied :=
  ⟨fun _ _ s _ => s.queueEmptied_onPort, fun s hs => by rw [State.queueEmptied_hpi, hs]⟩

/-! ## The requests (R143, R144) -/

section
variable {x : PortTxn} {a b : State} (hab : State.Granted x a b)
include hab

theorem State.Granted.config : b.config = a.config := by
  rcases hab with rfl | ⟨rfl, -⟩ <;> rfl

theorem State.Granted.queue : b.queue = a.queue := by
  rcases hab with rfl | ⟨rfl, -⟩ <;> rfl

theorem State.Granted.slc : b.slc = a.slc := by
  rcases hab with rfl | ⟨rfl, -⟩ <;> rfl

theorem State.Granted.drain : b.drain = a.drain := by
  rcases hab with rfl | ⟨rfl, -⟩ <;> rfl

theorem State.applyConfig_granted (c : ConfigRecord) : State.Granted x (a.applyConfig c) (b.applyConfig c) := by
  have hset : GrantBlind (State.setConfig · c) := ⟨fun _ _ _ _ => rfl, fun _ hs => hs⟩
  unfold State.applyConfig
  rw [hab.config]
  exact (((hset.comp grantBlind_applyForce).comp (grantBlind_applyStarvationLimit _)).comp
    (grantBlind_applyStallLimit _)).arbitrated hab

theorem State.cancelBatch_granted (r : BatchRecord) : State.Granted x (a.cancelBatch r) (b.cancelBatch r) := by
  have hcount : b.freedCount (Slot.inBatch r.members) = a.freedCount (Slot.inBatch r.members) := by
    rcases hab with rfl | ⟨rfl, -⟩ <;> rfl
  have hfreed := ((grantBlind_removeBatch r).comp grantBlind_queueEmptied).comp
    (grantBlind_afterFreeing (a.freedCount (Slot.inBatch r.members)))
  unfold State.cancelBatch
  rw [hab.queue, hcount]
  dsimp only
  split
  · exact (hfreed.comp grantBlind_startBatches).arbitrated hab
  · exact hfreed.arbitrated hab

theorem State.takeRecords_granted (n : Nat) : State.Granted x (a.takeRecords n) (b.takeRecords n) := by
  have hdrop : GrantBlind fun s => s.setLog { s.log with records := s.log.records.drop n } := ⟨fun _ _ _ _ => rfl, fun _ hs => hs⟩
  unfold State.takeRecords
  rw [hab.drain]
  dsimp only
  split
  · split
    · exact (hdrop.comp grantBlind_startBatches).arbitrated hab
    · exact hdrop.granted hab
  · exact hdrop.granted hab

theorem State.queueFilled_granted : State.Granted x a.queueFilled b.queueFilled :=
  ((grantBlind_setTimer (fun _ => clearedTimer) fun _ _ => rfl).comp grantBlind_startBatches).arbitrated hab

end

end Sys2Proof.Machine
end

section
/-! The requests behind a WIPE, under an early and a late grant, and the end of a line that is not the batch's last. -/

namespace Sys2Proof.Machine

variable {s : State} {φ : Mpa → Mpa}

/-! ## The effect of a WIPE (R117, R166) -/

theorem State.makeWipeEffect_onPort (s : State) (φ : Mpa → Mpa) : (s.onPort φ).makeWipeEffect = s.makeWipeEffect.onPort φ := by
  have hblocks : (s.onPort φ).wipeBlocks = s.wipeBlocks.onPort φ := by
    rw [State.wipeBlocks_fields, State.wipeBlocks_fields]
    rfl
  have hcounts : (s.onPort φ).wipeCounts = s.wipeCounts := rfl
  have hslc : (s.wipeBlocks.onPort φ).slc = s.wipeBlocks.slc := rfl
  unfold State.makeWipeEffect State.fillWipe
  rw [hblocks, hcounts, hslc]
  split <;> rfl

theorem State.makeWipeEffect_hpi (s : State) : s.makeWipeEffect.hpi = s.wipeBlocks.hpi := by
  unfold State.makeWipeEffect State.fillWipe
  split <;> rfl

theorem State.makeWipeEffect_mpa (s : State) : s.makeWipeEffect.mpa = s.mpa := by
  have hblocks : s.wipeBlocks.mpa = s.mpa := by rw [State.wipeBlocks_fields]
  unfold State.makeWipeEffect State.fillWipe
  split <;> exact hblocks

theorem Hpi.wiped_held (h : Hpi) : h.wiped.held = none := by
  cases hheld : h.held with
  | none => rw [Hpi.wiped_of_not_held hheld, hheld]
  | some b =>
    obtain ⟨x, hx, hb⟩ := (Hpi.held_eq_some _ _).mp hheld
    rw [Hpi.wiped_of_held hx hb, Hpi.held_afterBeat]

/-- R117: a held beat is answered, so none is held. -/
theorem State.makeWipeEffect_held (s : State) : s.makeWipeEffect.hpi.held = none := by
  have hblocks : s.wipeBlocks.hpi = s.hpi.wiped := by rw [State.wipeBlocks_fields]
  rw [State.makeWipeEffect_hpi, hblocks, Hpi.wiped_held]

theorem grantBlind_makeWipeEffect : GrantBlind State.makeWipeEffect :=
  ⟨fun φ _ s _ => s.makeWipeEffect_onPort φ, fun s _ => s.makeWipeEffect_held⟩

/-! ## The requests (R143, R144) -/

/-- What a request replies does not depend on the grant, nor what it leaves. -/
abbrev GrantedBoth (x : PortTxn) (p q : State × Reply) : Prop := State.Granted x p.1 q.1 ∧ p.2 = q.2

theorem grantedBoth_ite {x : PortTxn} {c : Prop} [Decidable c] {p q p' q' : State × Reply} (h : GrantedBoth x p q)
    (h' : GrantedBoth x p' q') :
    GrantedBoth x (if c then p else p') (if c then q else q') := by
  split
  · exact h
  · exact h'

section
variable {x : PortTxn} {a b : State} (hab : State.Granted x a b)
include hab

theorem State.Granted.win (w : WindowNo) : b.win w = a.win w := by
  rcases hab with rfl | ⟨rfl, -⟩ <;> rfl

theorem State.Granted.log : b.log = a.log := by
  rcases hab with rfl | ⟨rfl, -⟩ <;> rfl

theorem State.Granted.reply (r : Reply) : GrantedBoth x (a, r) (b, r) := ⟨hab, rfl⟩

theorem shortForm_granted (body : FrameBody) {k k' : Byte → State × Reply} (hk : ∀ v, GrantedBoth x (k v) (k' v)) :
    GrantedBoth x (shortForm body a k) (shortForm body b k') := by
  cases body with
  | short v => exact hk v
  | long ws => exact hab.reply _

theorem windowForm_granted (body : FrameBody) {k k' : WindowNo → State × Reply} (hk : ∀ w, GrantedBoth x (k w) (k' w)) :
    GrantedBoth x (windowForm body a k) (windowForm body b k') := by
  refine shortForm_granted hab body fun v => ?_
  split
  · exact hk _
  · exact hab.reply _

theorem longForm1_granted (body : FrameBody) {k k' : Word → State × Reply} (hk : ∀ w0, GrantedBoth x (k w0) (k' w0)) :
    GrantedBoth x (longForm1 body a k) (longForm1 body b k') := by
  unfold longForm1
  split
  · exact hk _
  · exact hab.reply _

theorem requestConfigSet_granted (body : FrameBody) : GrantedBoth x (requestConfigSet body a) (requestConfigSet body b) := by
  unfold requestConfigSet longForm3
  split
  · dsimp only
    split
    · exact hab.reply _
    · have hstrict (c : ConfigRecord) : b.strictAbove c = a.strictAbove c := by rw [State.strictAbove, State.strictAbove, hab.queue]
      rw [hstrict]
      exact grantedBoth_ite (hab.reply _) ⟨State.applyConfig_granted hab _, rfl⟩
  · exact hab.reply _

theorem requestSetLimit_granted (ch : Channel) (body : FrameBody) :
    GrantedBoth x (requestSetLimit ch body a) (requestSetLimit ch body b) :=
  shortForm_granted hab body fun v => grantedBoth_ite (hab.reply _)
    ⟨(grantBlind_setSlc (fun s => { s.slc with limits := s.slc.limits.set ch.val v.toNat ch.isLt }) fun _ _ => rfl).granted hab, rfl⟩

theorem requestWinDefine_granted (ch : Channel) (body : FrameBody) :
    GrantedBoth x (requestWinDefine ch body a) (requestWinDefine ch body b) := by
  have hoverlaps (g : Geometry) : b.overlaps g = a.overlaps g := by rcases hab with rfl | ⟨rfl, -⟩ <;> rfl
  have hset (w : WindowNo) (e : WindowEntry) : GrantBlind (State.setWin · w e) := ⟨fun _ _ _ _ => rfl, fun _ hs => hs⟩
  unfold requestWinDefine longForm5
  split
  · dsimp only
    split
    · exact hab.reply _
    · rw [hab.win, hoverlaps]
      exact grantedBoth_ite (hab.reply _) <| grantedBoth_ite (hab.reply _) <| grantedBoth_ite (hab.reply _)
        ⟨(hset _ _).granted hab, rfl⟩
  · exact hab.reply _

theorem requestWinStart_granted (ch : Channel) (body : FrameBody) :
    GrantedBoth x (requestWinStart ch body a) (requestWinStart ch body b) := by
  have hset (w : WindowNo) (e : WindowEntry) : GrantBlind (State.setWin · w e) := ⟨fun _ _ _ _ => rfl, fun _ hs => hs⟩
  refine windowForm_granted hab body fun w => ?_
  rw [hab.win]
  refine grantedBoth_ite (hab.reply _) ?_
  split
  · exact ⟨(hset _ _).granted hab, rfl⟩
  · exact hab.reply _

theorem requestWinRelease_granted (ch : Channel) (body : FrameBody) :
    GrantedBoth x (requestWinRelease ch body a) (requestWinRelease ch body b) := by
  have hset (w : WindowNo) (e : WindowEntry) : GrantBlind (State.setWin · w e) := ⟨fun _ _ _ _ => rfl, fun _ hs => hs⟩
  refine windowForm_granted hab body fun w => ?_
  rw [hab.win]
  refine grantedBoth_ite (hab.reply _) ?_
  split
  · exact ⟨(hset _ _).granted hab, rfl⟩
  · exact hab.reply _

theorem requestWinAbort_granted (ch : Channel) (body : FrameBody) :
    GrantedBoth x (requestWinAbort ch body a) (requestWinAbort ch body b) := by
  have hcount (w : WindowNo) : b.freedCount (Slot.openOf w) = a.freedCount (Slot.openOf w) := by
    rcases hab with rfl | ⟨rfl, -⟩ <;> rfl
  refine windowForm_granted hab body fun w => ?_
  rw [hab.win, hcount]
  exact grantedBoth_ite (hab.reply _) <| grantedBoth_ite (hab.reply _)
    ⟨((grantBlind_abortGroup w).comp (grantBlind_retryAfter _)).arbitrated hab, rfl⟩

theorem requestClose_granted (ch : Channel) (body : FrameBody) :
    GrantedBoth x (requestClose ch body a) (requestClose ch body b) := by
  have hstrict (ws : List WindowNo) : b.anyStrict ws = a.anyStrict ws := by rcases hab with rfl | ⟨rfl, -⟩ <;> rfl
  have hgroups (ws : List WindowNo) : b.closingGroups ws = a.closingGroups ws := by rcases hab with rfl | ⟨rfl, -⟩ <;> rfl
  have hseq : b.nextSeq = a.nextSeq := by rcases hab with rfl | ⟨rfl, -⟩ <;> rfl
  refine longForm1_granted hab body fun w0 => ?_
  split
  · exact hab.reply _
  next retire mask _ =>
    have hclosed : State.Granted x (a.closeBatch retire (maskWindows mask)) (b.closeBatch retire (maskWindows mask)) :=
      (grantBlind_closeBatch retire _).granted hab
    simp only [hab.win, hab.queue, hab.config, hstrict, hgroups, hseq]
    refine grantedBoth_ite (hab.reply _) <| grantedBoth_ite (hab.reply _) <| grantedBoth_ite (hab.reply _) <|
      grantedBoth_ite (hab.reply _) ⟨?_, rfl⟩
    dsimp only
    split
    · exact State.queueFilled_granted hclosed
    · exact hclosed

theorem requestCancel_granted (body : FrameBody) : GrantedBoth x (requestCancel body a) (requestCancel body b) := by
  refine longForm1_granted hab body fun w0 => ?_
  split
  · exact hab.reply _
  · rw [hab.log, hab.queue]
    refine grantedBoth_ite (hab.reply _) ?_
    split
    · exact grantedBoth_ite (hab.reply _) ⟨State.cancelBatch_granted hab _, rfl⟩
    · exact hab.reply _

theorem requestLogRead_granted (ch : Channel) (body : FrameBody) :
    GrantedBoth x (requestLogRead ch body a) (requestLogRead ch body b) := by
  have hcount (n : Nat) : b.logReadCount ch n = a.logReadCount ch n := by rw [State.logReadCount, State.logReadCount, hab.slc, hab.log]
  refine shortForm_granted hab body fun v => grantedBoth_ite (hab.reply _) ?_
  rw [hcount, hab.log]
  exact ⟨State.takeRecords_granted hab _, rfl⟩

theorem requestEventAck_granted (body : FrameBody) : GrantedBoth x (requestEventAck body a) (requestEventAck body b) := by
  have hset (named : EventSet) : GrantBlind fun s => s.setEvents (EventSet.without s.events named) :=
    ⟨fun _ _ _ _ => rfl, fun _ hs => hs⟩
  refine longForm1_granted hab body fun w0 => ?_
  split
  · exact hab.reply _
  · exact ⟨(hset _).granted hab, rfl⟩

theorem requestOf_granted (k : Kind) (ch : Channel) (body : FrameBody) {f : State → State × Reply} (hf : requestOf k ch body = some f) :
    GrantedBoth x (f a) (f b) := by
  have hstatus : b.statusWords = a.statusWords := by rcases hab with rfl | ⟨rfl, -⟩ <;> rfl
  have hchain : GrantBlind (State.setChain · 0) := ⟨fun _ _ _ _ => rfl, fun _ hs => hs⟩
  cases k with
  | wipe => cases hf
  | resync => cases hf
  | ident => cases hf; exact shortForm_granted hab body fun _ => hab.reply _
  | status => cases hf; exact shortForm_granted hab body fun _ => ⟨hab, congrArg Reply.data hstatus.symm⟩
  | configGet =>
    cases hf
    exact shortForm_granted hab body fun _ => ⟨hab, congrArg (fun c => Reply.data (ConfigRecord.toWords c)) hab.config.symm⟩
  | configSet => cases hf; exact requestConfigSet_granted hab body
  | setLimit => cases hf; exact requestSetLimit_granted hab ch body
  | winDefine => cases hf; exact requestWinDefine_granted hab ch body
  | winStart => cases hf; exact requestWinStart_granted hab ch body
  | winRelease => cases hf; exact requestWinRelease_granted hab ch body
  | winQuery =>
    cases hf
    exact windowForm_granted hab body fun w => ⟨hab, congrArg (fun e => Reply.data (WindowEntry.toWords w e)) (hab.win w).symm⟩
  | winAbort => cases hf; exact requestWinAbort_granted hab ch body
  | close => cases hf; exact requestClose_granted hab ch body
  | cancel => cases hf; exact requestCancel_granted hab body
  | logRead => cases hf; exact requestLogRead_granted hab ch body
  | sigReset => cases hf; exact shortForm_granted hab body fun _ => ⟨hchain.granted hab, rfl⟩
  | eventAck => cases hf; exact requestEventAck_granted hab body

/-! ## The command path -/

theorem State.fill_granted (ch : Channel) (tag : Tag) (r : Reply) : State.Granted x (a.fill ch tag r) (b.fill ch tag r) :=
  (grantBlind_setSlc (fun s => { s.slc with responses := fillFirst { ch := ch, tag := tag, reply := r } s.slc.responses })
    fun _ _ => rfl).granted hab

theorem State.takeRequest_granted (q : Request) : State.Granted x (a.takeRequest q) (b.takeRequest q) := by
  cases q with
  | refused ch tag why => exact State.fill_granted hab ch tag _
  | frame f =>
    cases hk : kindOfCode f.kind with
    | none => simp only [takeRequest, hk]; exact State.fill_granted hab _ _ _
    | some k =>
      cases hf : requestOf k f.ch f.body with
      | some g =>
        have htaken (t : State) := code_of_kindOfCode hk ▸ takeRequest_frame k f.ch f.tag f.body g hf t
        obtain ⟨hstate, hreply⟩ := requestOf_granted hab k f.ch f.body hf
        rw [htaken, htaken, fillReply, fillReply, hreply]
        exact State.fill_granted hstate _ _ _
      | none =>
        simp only [takeRequest, hk]
        cases k <;> simp only [requestOf, reduceCtorEq] at hf
        · have hline : b.lineInProgress = a.lineInProgress := by rw [lineInProgress, lineInProgress, hab.drain]
          simp only [execute, takeWipe, hline]
          split
          · exact State.fill_granted hab _ _ _
          · split
            · exact (grantBlind_setSlc (fun s => { s.slc with wipeTaken := true }) fun _ _ => rfl).granted hab
            · exact grantBlind_makeWipeEffect.granted hab
        · simp only [execute, takeResync]
          split
          · exact State.fill_granted hab _ _ _
          · exact (grantBlind_setSlc (fun s => { s.slc with
              responses := fillFirst { ch := f.ch, tag := f.tag, reply := .ack } (dropFilled s.slc.responses)
              txPos := 0, txFill := s.slc.assembler != .idle, headerErrors := 0 }) fun _ _ => rfl).granted hab

theorem State.runCommands_granted (n : Nat) : State.Granted x (State.runCommands n a) (State.runCommands n b) := by
  induction n generalizing a b with
  | zero => exact hab
  | succ n ih =>
    unfold runCommands
    rw [hab.slc]
    split
    · exact hab
    · split
      · exact ih (State.takeRequest_granted hab _)
      · exact hab

end

/-- R115, R165: a WIPE that waited has its effect before the host path's grant is made, or after. -/
theorem State.finishWipe_arbitrate_early (hport : s.mpa.port = none) (hdrain : s.mpa.drainReq = none) (hlast : s.mpa.lastGrant = .drain) :
    s.finishWipe.arbitrate = s.arbitrate.finishWipe.arbitrate := by
  rcases State.arbitrate_or_hostNext hport hdrain hlast with hsame | ⟨x, hnext⟩
  · rw [hsame]
  · have hheld : s.makeWipeEffect.hpi.held = none := s.makeWipeEffect_held
    have hgrant : s.arbitrate.makeWipeEffect = s.makeWipeEffect.onPort (Mpa.grantHost x) := by
      rw [hnext.arbitrate, State.makeWipeEffect_onPort]
    have hnext' : s.makeWipeEffect.HostNext x := by rwa [HostNext, State.makeWipeEffect_mpa]
    have hgranted : State.Granted x s.makeWipeEffect s.arbitrate.makeWipeEffect := .inr ⟨hgrant, hnext', hheld⟩
    have hlength : s.arbitrate.makeWipeEffect.slc = s.makeWipeEffect.slc := hgranted.slc
    unfold finishWipe commandPath
    rw [hlength]
    exact (State.runCommands_granted hgranted _).arbitrate

end Sys2Proof.Machine
end

section
/-! The end of a line that is not the batch's last, and of one a WIPE waited for (R88, R90, R116, R165). -/

namespace Sys2Proof.Machine

variable {s : State}

/-! ## What the end of a line does, by the phase and the next line -/

/-- R116: the issue at the interlock leaves the turn and the drain engine's requests at the port. -/
theorem State.tryIssue_drainReq (s : State) :
    s.tryIssue.mpa.drainReq = s.mpa.drainReq ∧ s.tryIssue.mpa.lastGrant = s.mpa.lastGrant := by
  unfold tryIssue
  split
  next t ht =>
    split
    · split
      · exact ⟨rfl, rfl⟩
      · rw [issuePass, State.setBeat_eq _ t _ (by exact ht)]
        exact ⟨rfl, rfl⟩
    · exact ⟨rfl, rfl⟩
  next => exact ⟨rfl, rfl⟩

section
variable {r : BatchRecord} {f : DrainFields} {p : Member × Nat} (hd : s.drainingHead = some (r, f)) (hf : f.resume = some p)
include hd hf

/-- R90: in phase CLOSED the batch pauses. -/
theorem State.afterLine_of_closed (hphase : s.drain.phase = .closed) (b : Bool) : s.afterLine b = s.setActivity .held := by
  simp only [afterLine, hd, hf, hphase]

/-- R88: the next line begins where the stretch is forced or the line fits the remainder. -/
theorem State.afterLine_of_room {x : Slot} (hx : s.slotAt p = some x)
    (hroom : s.drain.phase = .forced ∨ s.drain.phase = .quiet ∧ validCount x.cells ≤ s.drain.remainder) (b : Bool) :
    s.afterLine b = s.beginSlot p.1 x := by
  have hbegin : s.beginLine = s.beginSlot p.1 x := State.beginLine_eq hd hf hx
  rcases hroom with hforced | ⟨hquiet, hfits⟩
  · simp only [afterLine, hd, hf, hforced, hbegin]
  · simp only [afterLine, hd, hf, hquiet, hx, if_pos hfits, hbegin]

/-- R90: the batch pauses with SPANNED where the next line does not fit. -/
theorem State.afterLine_of_no_room {x : Slot} (hx : s.slotAt p = some x) (hquiet : s.drain.phase = .quiet)
    (hfits : s.drain.remainder < validCount x.cells) (b : Bool) :
    s.afterLine b = (s.flagHead BatchFlags.setSpanned).setActivity .held := by
  simp only [afterLine, hd, hf, hquiet, hx, if_neg (Nat.not_le.mpr hfits)]

end

/-! ## The answer -/

/-- Settles O58: at the port the line leaves free, the host path's grant before the WIPE, the pause or the next line, or after. -/
theorem lineEndGoesOnOrPauses : Obligations.LineEndGoesOnOrPauses := by
  unfold Obligations.LineEndGoesOnOrPauses
  intro err rd run n l r f rest next s hr hport hdrainReq hlastGrant hlast ha hruns hq hf hnext t
  have ht : t = (s.lineOn err l (r.lineOn err f l next) rest).onPort (Mpa.carry none) := rfl
  obtain ⟨hqueue, -, -, hdrain, hresetn, hfree⟩ := t.tryIssue_frame
  obtain ⟨hnoRun, hturn⟩ := t.tryIssue_drainReq
  have hXfree : t.tryIssue.mpa.port = none := hfree
  have hXnoRun : t.tryIssue.mpa.drainReq = none := hnoRun.trans hdrainReq
  have hXturn : t.tryIssue.mpa.lastGrant = .drain := hturn.trans hlastGrant
  have hslc : t.tryIssue.slc = s.slc := t.tryIssue_slc
  have hanswer : exec (.memoryBeatAnswer err rd) s =
      .next (if s.slc.wipeTaken then (t.tryIssue.setActivity .idle).finishWipe
        else t.tryIssue.afterLine t.tryIssue.wipeNext).arbitrate := by
    rw [exec_lastBeat err rd hr hport hlast ha hruns, State.lineEnd, State.endLine_noted err hq hf, hnext, ← ht]
    rw [hslc]
  generalize hX : t.tryIssue = X at *
  refine ⟨X.arbitrate, by rw [exec_passWriteIssue (show t.resetn = true from hr), hX], ?wipe, ?goes⟩
  case wipe =>
    intro hwipe
    have hready : (X.arbitrate.setActivity .idle).resetn = true := hresetn.trans hr
    have hwaits : (X.arbitrate.setActivity .idle).slc.wipeTaken = true := (congrArg Slc.wipeTaken hslc).trans hwipe
    have hearly : (X.setActivity .idle).finishWipe.arbitrate = (X.arbitrate.setActivity .idle).finishWipe.arbitrate :=
      State.finishWipe_arbitrate_early (s := X.setActivity .idle) hXfree hXnoRun hXturn
    refine ⟨(X.arbitrate.setActivity .idle).finishWipe.arbitrate, ?_, ?_⟩
    · exact (exec_wipeEffect hready).trans (by rw [hwaits]; rfl)
    · rw [hanswer, hwipe, if_pos rfl, hearly]
  case goes =>
    rintro p hwipe rfl
    have hhead : X.drainingHead = some (r.lineOn err f l (some p), f.lineOn l (some p)) := by
      rw [State.drainingHead, hqueue]
      rfl
    have hphase : X.drain = s.drain := hdrain
    rw [hanswer, hwipe, if_neg Bool.false_ne_true, ← hphase]
    refine ⟨?closed, ?room, ?noRoom⟩
    case closed =>
      intro hclosed
      rw [State.afterLine_of_closed hhead rfl hclosed]
      rfl
    case room =>
      intro x hx hroom
      rw [State.afterLine_of_room hhead rfl hx hroom, State.beginSlot_arbitrate_early hXfree hXnoRun hXturn]
    case noRoom =>
      intro x hx hquiet hfits
      rw [State.afterLine_of_no_room hhead rfl hx hquiet hfits, State.flagHead, State.changeHead_eq]
      rfl

end Sys2Proof.Machine
end

section
/-! The runs of a line and the drain order of a batch (R86, R87). -/

namespace Sys2Proof.Machine

/-! ## The runs of a line (R87) -/

/-- The words a run covers, each with its beat. -/
def DrainRun.words (r : DrainRun) : List (Nat × Lanes) := r.beats.mapIdx fun i b => (r.addr + 4 * i, b)

/-- At least one word lies between the end of the one run and the start of the other. -/
def DrainRun.Apart (r q : DrainRun) : Prop := r.addr + 4 * r.beats.length < q.addr

/-- R87.2: the runs stand for the valid words among the `n` words from word `j` on. -/
structure RunsCover (cs : Cells) (line j n : Nat) (runs : List DrainRun) : Prop where
  covers : runs.flatMap DrainRun.words = ((List.range' j n).filter (wordValid cs)).map fun j => (line + 4 * j, wordCells cs j)
  nonempty : ∀ r ∈ runs, r.beats ≠ []
  apart : runs.Pairwise DrainRun.Apart
  above : ∀ r ∈ runs, line + 4 * j ≤ r.addr

theorem DrainRun.words_cons {line j : Nat} (b : Lanes) {r : DrainRun} (hnext : r.addr = line + 4 * (j + 1)) :
    DrainRun.words { addr := line + 4 * j, beats := b :: r.beats } = (line + 4 * j, b) :: r.words := by
  have haddr (i : Nat) : line + 4 * j + 4 * (i + 1) = r.addr + 4 * i := by omega
  simp only [words, List.mapIdx_cons, haddr, Nat.mul_zero, Nat.add_zero]

section
variable {cs : Cells} {line j n : Nat} {runs : List DrainRun}

theorem RunsCover.skip (h : RunsCover cs line (j + 1) n runs) (hj : wordValid cs j = false) : RunsCover cs line j (n + 1) runs where
  covers := by rw [h.covers, List.range'_succ, List.filter_cons_of_neg (by rw [hj]; exact Bool.false_ne_true)]
  nonempty := h.nonempty
  apart := h.apart
  above r hr := by
    have := h.above r hr
    omega

theorem RunsCover.alone (h : RunsCover cs line (j + 1) n runs) (hj : wordValid cs j = true)
    (hfirst : ∀ r ∈ runs.head?, r.addr ≠ line + 4 * (j + 1)) :
    RunsCover cs line j (n + 1) ({ addr := line + 4 * j, beats := [wordCells cs j] } :: runs) where
  covers := by
    rw [List.flatMap_cons, h.covers, List.range'_succ, List.filter_cons_of_pos hj]
    rfl
  nonempty := List.forall_mem_cons.mpr ⟨List.cons_ne_nil _ _, h.nonempty⟩
  apart := by
    refine List.pairwise_cons.mpr ⟨?_, h.apart⟩
    cases runs with
    | nil => exact fun q hq => absurd hq List.not_mem_nil
    | cons r rest =>
      have hgap : line + 4 * j + 4 < r.addr := by
        have hne := hfirst r rfl
        have hle := h.above r List.mem_cons_self
        omega
      refine List.forall_mem_cons.mpr ⟨hgap, fun q hq => ?_⟩
      have hrq : r.addr + 4 * r.beats.length < q.addr := (List.pairwise_cons.mp h.apart).1 q hq
      exact Nat.lt_trans hgap (Nat.lt_of_le_of_lt (Nat.le_add_right _ _) hrq)
  above := by
    refine List.forall_mem_cons.mpr ⟨Nat.le_refl _, fun r hr => ?_⟩
    have := h.above r hr
    omega

theorem RunsCover.join {r : DrainRun} {rest : List DrainRun} (h : RunsCover cs line (j + 1) n (r :: rest)) (hj : wordValid cs j = true)
    (hnext : r.addr = line + 4 * (j + 1)) :
    RunsCover cs line j (n + 1) ({ addr := line + 4 * j, beats := wordCells cs j :: r.beats } :: rest) where
  covers := by
    have hcovers := h.covers
    rw [List.flatMap_cons] at hcovers
    rw [List.flatMap_cons, DrainRun.words_cons _ hnext, List.cons_append, hcovers, List.range'_succ, List.filter_cons_of_pos hj]
    rfl
  nonempty := List.forall_mem_cons.mpr ⟨List.cons_ne_nil _ _, fun q hq => h.nonempty q (List.mem_cons_of_mem _ hq)⟩
  apart := by
    obtain ⟨hfirst, hrest⟩ := List.pairwise_cons.mp h.apart
    refine List.pairwise_cons.mpr ⟨fun q hq => ?_, hrest⟩
    have hrq : r.addr + 4 * r.beats.length < q.addr := hfirst q hq
    show line + 4 * j + 4 * (r.beats.length + 1) < q.addr
    omega
  above := by
    refine List.forall_mem_cons.mpr ⟨Nat.le_refl _, fun q hq => ?_⟩
    have := h.above q (List.mem_cons_of_mem _ hq)
    omega

theorem RunsCover.addWord (h : RunsCover cs line (j + 1) n runs) : RunsCover cs line j (n + 1) (addWord cs line j runs) := by
  unfold Machine.addWord
  cases hj : wordValid cs j with
  | false => exact h.skip hj
  | true =>
    cases runs with
    | nil => exact h.alone hj (by simp)
    | cons r rest =>
      by_cases hnext : r.addr = line + 4 * (j + 1)
      · simp only [if_true, if_pos hnext]
        exact h.join hj hnext
      · simp only [if_true, if_neg hnext]
        exact h.alone hj (by simpa using hnext)

theorem runsCover_foldr (cs : Cells) (line j n : Nat) : RunsCover cs line j n ((List.range' j n).foldr (Machine.addWord cs line) []) := by
  induction n generalizing j with
  | zero => exact ⟨rfl, by simp, .nil, by simp⟩
  | succ n ih => exact (ih (j + 1)).addWord

theorem runsCover_runsOf (cs : Cells) (line : Nat) : RunsCover cs line 0 8 (runsOf cs line) := by
  unfold runsOf
  rw [List.range_eq_range']
  exact runsCover_foldr cs line 0 8

end

theorem wordValid_eq_any (cs : Cells) (j : Nat) : wordValid cs j = (List.finRange 4).any fun k => (wordCells cs j)[k].isSome := by
  have hlist : (wordCells cs j).toList = (List.finRange 4).map fun k => (wordCells cs j)[k] := by
    rw [wordCells, Vector.toList_ofFn, List.ofFn_eq_map]
    exact List.map_congr_left fun k _ => (Vector.getElem_ofFn (f := fun k : Fin 4 => cellAt cs (4 * j + k.val)) k.isLt).symm
  rw [wordValid, hlist, List.any_map]
  rfl

/-! ## The drain order (R86) -/

theorem groupSlots_ascending {slots : List Slot} (hslots : slots.Pairwise fun x y => x.before y = true) (m : Member) :
    (groupSlots slots m).Pairwise fun x y => x.line < y.line := by
  refine (hslots.filter _).imp_of_mem fun {x y} hx hy hxy => ?_
  have hkey {z : Slot} (hz : z ∈ groupSlots slots m) : z.window = m.window ∧ z.epoch = m.epoch := by
    simpa [groupSlots] using (List.mem_filter.mp hz).2
  obtain ⟨hxw, hxe⟩ := hkey hx
  obtain ⟨hyw, hye⟩ := hkey hy
  simpa [Slot.before, hxw, hyw, hxe, hye] using hxy

/-- R86: by window number, and in a window by line address. -/
def DrainsBefore (p q : Member × Nat) : Prop := p.1.window < q.1.window ∨ p.1 = q.1 ∧ p.2 < q.2

theorem drainOrder_ascending {slots : List Slot} {ms : List Member} (hslots : slots.Pairwise fun x y => x.before y = true)
    (hms : ms.Pairwise fun m n => m.window < n.window) : (drainOrder slots ms).Pairwise DrainsBefore := by
  refine List.pairwise_flatMap.mpr ⟨fun m _ => ?_, hms.imp fun {m n} hmn p hp q hq => ?_⟩
  · exact List.pairwise_map.mpr ((groupSlots_ascending hslots m).imp fun hlt => .inr ⟨rfl, hlt⟩)
  · obtain ⟨x, -, rfl⟩ := List.mem_map.mp hp
    obtain ⟨y, -, rfl⟩ := List.mem_map.mp hq
    exact .inl hmn

theorem lineAfter_append {p : Member × Nat} {before after : List (Member × Nat)} (hp : p ∉ before) :
    lineAfter p (before ++ p :: after) = after.head? := by
  induction before with
  | nil => exact if_pos rfl
  | cons q rest ih =>
    obtain ⟨hne, hrest⟩ := not_or.mp (mt List.mem_cons.mpr hp)
    exact (if_neg (Ne.symm hne)).trans (ih hrest)

/-- Settles O60: the runs by induction over the words of the line, from the last; the order from that of the store's slots. -/
theorem runsCoverTheValidWords : Obligations.RunsCoverTheValidWords := by
  unfold Obligations.RunsCoverTheValidWords
  refine ⟨?runs, ?order⟩
  case runs =>
    intro cells line lanes valid
    have hvalid : valid = wordValid cells := funext fun j => (wordValid_eq_any cells j).symm
    obtain ⟨hcovers, hnonempty, hapart, -⟩ := runsCover_runsOf cells line
    rw [hvalid]
    exact ⟨hcovers, hnonempty, hapart⟩
  case order =>
    intro slots ms hslots hms
    have hascending := drainOrder_ascending hslots hms
    refine ⟨hascending, fun m line => by simp [mem_drainOrder, Slot.hasKey, and_assoc], fun p before after horder => ?_⟩
    rw [horder] at hascending ⊢
    refine lineAfter_append fun hp => ?_
    rcases (List.pairwise_append.mp hascending).2.2 p hp p List.mem_cons_self with hlt | ⟨-, hlt⟩
    · exact lt_irrefl _ hlt
    · exact lt_irrefl _ hlt

end Sys2Proof.Machine
end

section
/-! What an accepted CONFIG_SET changes (R99, R111, R163). -/

namespace Sys2Proof.Machine

variable {s : State}

/-! ## The words of a record (Table 8-8) -/

/-- R163: the words a record is written with are read as that record. -/
theorem configFields_toWords {c : ConfigRecord} {w0 w1 w2 : Word} (hwords : c.toWords = [w0, w1, w2]) (hbudget : c.budget ≠ 0#16)
    (hstall : c.stallLimit ≠ 0#16) : configFields w0 w1 w2 = some c := by
  obtain ⟨v0, v1, v2, hsame, h0, h1, h2⟩ := c.toWords_fields
  rw [hwords] at hsame
  obtain ⟨rfl, rfl, rfl⟩ : w0 = v0 ∧ w1 = v1 ∧ w2 = v2 := by simpa using hsame
  have hbudget' : 0 < c.budget.toNat := Nat.pos_of_ne_zero fun h => hbudget (BitVec.eq_of_toNat_eq h)
  have hstall' : 0 < c.stallLimit.toNat := Nat.pos_of_ne_zero fun h => hstall (BitVec.eq_of_toNat_eq h)
  have hbit : c.forceEnable.toNat < 2 := Bool.toNat_lt c.forceEnable
  have hrange : ¬ConfigOutOfRange w0 w1 w2 := by
    rw [ConfigOutOfRange, h0, h1, h2]
    omega
  have hforce : w1.getLsbD 0 = c.forceEnable := by
    rw [BitVec.getLsbD, h1, Nat.testBit_zero]
    cases c.forceEnable <;> simp <;> omega
  have e0 : w0.extractLsb' 16 16 = c.budget := BitVec.eq_of_toNat_eq (by
    rw [BitVec.extractLsb'_toNat, Nat.shiftRight_eq_div_pow, h0]
    omega)
  have e1 : w0.extractLsb' 0 16 = c.starvationLimit := BitVec.eq_of_toNat_eq (by
    rw [BitVec.extractLsb'_toNat, Nat.shiftRight_eq_div_pow, h0]
    omega)
  have e2 : w1.extractLsb' 16 16 = c.stallLimit := BitVec.eq_of_toNat_eq (by
    rw [BitVec.extractLsb'_toNat, Nat.shiftRight_eq_div_pow, h1]
    omega)
  have e3 : w2.extractLsb' 0 11 = c.eventMask := BitVec.eq_of_toNat_eq (by
    rw [BitVec.extractLsb'_toNat, Nat.shiftRight_eq_div_pow, h2]
    omega)
  rw [configFields, if_pos ((configInRange_iff _ _ _).mpr hrange), e0, e1, e2, e3, hforce]

/-! ## The effects of the new record (R99) -/

/-- R99: what the end of a forced stretch does to the drain engine and the head is what the end of a quiet interval does. -/
theorem State.applyForce_eq (s : State) :
    s.applyForce =
      if !s.config.forceEnable && s.drain.phase = .forced then (s.setPhase .closed).quietEndActivity else s := rfl

/-- R99: the starvation timer's part, as the command of its expiry at a settled port. -/
theorem State.execAll_applyStarvationLimit (hr : s.resetn = true) (hset : s.PortSettled) (hlimit : s.config.starvationLimit ≠ 0#16)
    (old : BitVec 16) :
    execAll (if s.config.starvationLimit ≠ 0#16 ∧ s.config.starvationLimit ≠ old ∧
        s.config.starvationLimit.toNat ≤ s.drain.timer.elapsed then [.starvationTimerExpiry] else []) s =
      .next (s.applyStarvationLimit old).arbitrate := by
  have hsettled := State.arbitrate_settled s hset
  unfold State.applyStarvationLimit State.starvationDue
  rw [if_neg hlimit]
  by_cases hdue : s.config.starvationLimit ≠ old ∧ s.config.starvationLimit.toNat ≤ s.drain.timer.elapsed
  · obtain ⟨hnew, hle⟩ := hdue
    have hexpiry := exec_starvationTimerExpiry hr
    rw [if_pos ⟨hlimit, hnew, hle⟩, execAll_cons_next hexpiry]
    simp only [hnew, hle, decide_true, and_true, ne_eq, not_false_eq_true, true_and, apply_ite State.arbitrate, hsettled]
    rfl
  · rw [if_neg (fun h => hdue h.2), if_neg (fun h => hdue ⟨h.1, of_decide_eq_true h.2.2⟩), hsettled]
    rfl

/-- R99: where force enable is cleared in phase FORCED, the stretch ends. -/
theorem State.applyForce_setConfig (s : State) (c : ConfigRecord) :
    (s.setConfig c).applyForce =
      { s with
        config := c
        queue :=
          if (!c.forceEnable && decide (s.drain.phase = .forced)) && s.lineInProgress.any s.linesLeft then
            s.queue.modifyHead fun r => { r with flags := { r.flags with spanned := true } }
          else s.queue
        drain :=
          { s.drain with
            phase := if !c.forceEnable && decide (s.drain.phase = .forced) then .closed else s.drain.phase
            activity :=
              if (!c.forceEnable && decide (s.drain.phase = .forced)) = true ∧ s.drain.activity = .waitLog then .idle
              else s.drain.activity } } := by
  have hforce : (!(s.setConfig c).config.forceEnable && decide ((s.setConfig c).drain.phase = .forced)) =
      (!c.forceEnable && decide (s.drain.phase = .forced)) := rfl
  rw [State.applyForce_eq, hforce]
  cases !c.forceEnable && decide (s.drain.phase = .forced) with
  | false => simp only [Bool.false_eq_true, if_false, Bool.false_and, false_and]; rfl
  | true => simp only [if_true, Bool.true_and, true_and, State.quietEndActivity_eq]; rfl

/-! ## The effect on a held beat (R111) -/

theorem State.expireStall_onPort (s : State) (φ : Mpa → Mpa) : (s.onPort φ).expireStall = s.expireStall.onPort φ := by
  have hhpi : (s.onPort φ).hpi = s.hpi := rfl
  have hanswer := s.answerBeat_onPort (φ := φ) true none
  unfold State.expireStall
  rw [hhpi, hanswer]
  split
  next h hh =>
    have hwin : (s.onPort φ).win h.window = s.win h.window := rfl
    have hmark (t : State) :
        (t.onPort φ).markGroup h.window GroupFlags.setLost = (t.markGroup h.window GroupFlags.setLost).onPort φ := rfl
    have hevent (t : State) (e : Event) : (t.onPort φ).setEvent e = (t.setEvent e).onPort φ := rfl
    dsimp only
    rw [hwin, hevent, hmark, hevent, State.ite_onPort]
  next => rfl

/-- R111, R115: the expiry of the stall timer before the port's grant or after. -/
theorem State.applyStallLimit_arbitrate (s : State) (old : BitVec 16) :
    (s.applyStallLimit old).arbitrate = s.arbitrate.applyStallLimit old := by
  have hexpire : s.arbitrate.expireStall = s.expireStall.arbitrate := by
    have hself : s.onPort (fun _ => s.mpa) = s := rfl
    have hmpa : s.expireStall.mpa = s.mpa := by
      rw [← hself, State.expireStall_onPort]
      rfl
    have hgranted : s.expireStall.arbitrate = s.expireStall.onPort fun _ => s.mpa.arbitrate := by
      rw [State.arbitrate, hmpa]
      rfl
    rw [hgranted]
    exact s.expireStall_onPort fun _ => s.mpa.arbitrate
  have hhpi : s.arbitrate.hpi = s.hpi := rfl
  have hconfig : s.arbitrate.config = s.config := rfl
  unfold State.applyStallLimit
  rw [hhpi, hconfig, hexpire]
  split
  · split <;> rfl
  · rfl

theorem State.execAll_applyStallLimit (hr : s.resetn = true) (old : BitVec 16) :
    execAll (if s.config.stallLimit ≠ old ∧ s.hpi.held.any (fun h => decide (s.config.stallLimit.toNat ≤ h.elapsed)) = true then
        [.stallLimitExpiry] else []) s = .next (s.applyStallLimit old) := by
  unfold State.applyStallLimit
  cases s.hpi.held with
  | none => simp only [Option.any_none, Bool.false_eq_true, and_false, if_false]; rfl
  | some h =>
    simp only [Option.any_some, decide_eq_true_eq]
    split
    · exact execAll_cons_next (exec_stallLimitExpiry hr)
    · rfl

/-! ## CONFIG_SET (R163) -/

/-- Settles O28: the record replaced with its effect on the drain engine, and the two expiries as their commands. -/
theorem configSetReplacesTheRecord : Obligations.ConfigSetReplacesTheRecord := by
  unfold Obligations.ConfigSetReplacesTheRecord
  intro ch tag c s hs hset hbudget hstall hfits ends cut t
  have ht : t = (if c.starvationLimit = 0#16 then (s.setConfig c).applyForce.setTimer clearedTimer else (s.setConfig c).applyForce) := by
    rw [State.applyForce_setConfig]
    by_cases hlimit : c.starvationLimit = 0#16
    · simp only [t, ends, cut, if_pos hlimit]
      rfl
    · simp only [t, ends, cut, if_neg hlimit]
  have htconfig : t.config = c := rfl
  have htr : t.resetn = true := hs.1
  have htset : t.PortSettled := hset
  let u := ((s.setConfig c).applyForce.applyStarvationLimit s.config.starvationLimit).arbitrate
  have hu : u.resetnConfig = (s.resetn, c) := by
    rw [State.arbitrate_resetnConfig, State.applyStarvationLimit_resetnConfig, State.applyForce_resetnConfig]
    rfl
  have huconfig : u.config = c := congrArg Prod.snd hu
  have hur : u.resetn = true := (congrArg Prod.fst hu).trans hs.1
  refine ⟨u, ?starvation, u.applyStallLimit s.config.stallLimit, ?stall, ?answer⟩
  case starvation =>
    by_cases hlimit : c.starvationLimit = 0#16
    · have hcleared : u = t := by
        have happlied : (s.setConfig c).applyForce.applyStarvationLimit s.config.starvationLimit = t := by
          rw [ht, if_pos hlimit, State.applyStarvationLimit, if_pos]
          exact hlimit ▸ congrArg ConfigRecord.starvationLimit (s.applyForce_setConfig c ▸ rfl)
        rw [show u = t.arbitrate from congrArg State.arbitrate happlied, State.arbitrate_settled t htset]
      rw [if_neg (fun h => h.1 hlimit), hcleared]
      rfl
    · have hforced : (s.setConfig c).applyForce = t := by rw [ht, if_neg hlimit]
      have htimer : t.drain.timer = s.drain.timer := if_neg hlimit
      have hexpiry := State.execAll_applyStarvationLimit htr htset hlimit s.config.starvationLimit
      rw [htconfig, htimer] at hexpiry
      rw [hexpiry, ← hforced]
  case stall =>
    have hexpiry := State.execAll_applyStallLimit hur s.config.stallLimit
    rwa [huconfig] at hexpiry
  case answer =>
    have hstrict : s.strictAbove c = false := by
      rw [Bool.eq_false_iff, ne_eq, State.strictAbove_iff]
      rintro ⟨r, hr, hmode, hover⟩
      exact Nat.not_le.mpr hover (hfits r hr hmode)
    have hreply := requestConfigSet_of_inRange s (configFields_toWords (c := c) rfl hbudget hstall)
    rw [hstrict, if_neg Bool.false_ne_true] at hreply
    rw [exec_configSet ch tag hs hreply, State.applyConfig, State.applyStallLimit_arbitrate]

end Sys2Proof.Machine
end

section
/-! What an accepted CLOSE leaves (R16, R48 to R50, R53, R54, R61). -/

namespace Sys2Proof.Machine

variable {s : State}

/-! ## The record and the batch of a CLOSE (R53) -/

/-- R50: the open groups of the windows, each with its window and epoch. -/
def State.openGroups (s : State) (ws : List WindowNo) : List (WindowNo × Epoch × OpenGroup) :=
  ws.filterMap fun w => (s.win w).openGroup.map fun p => (w, p.1, p.2)

theorem State.closingGroups_eq (s : State) (ws : List WindowNo) :
    s.closingGroups ws = (s.openGroups ws).map fun p => ({ window := p.1, epoch := p.2.1 }, p.2.2) := by
  unfold closingGroups openGroups
  rw [List.map_filterMap]
  refine congrArg (List.filterMap · ws) (funext fun w => ?_)
  rw [Option.map_map]
  rfl

theorem State.anyStrict_filter (s : State) (named : WindowNo → Bool) :
    s.anyStrict (allWindows.filter named) = allWindows.any fun w => named w && (s.win w).definition.any fun d => d.mode = .strict := by
  unfold anyStrict
  rw [List.any_filter]
  refine congrArg (allWindows.any ·) (funext fun w => ?_)
  cases (s.win w).definition <;> rfl

/-- R53.1, R59: the record a CLOSE forms. -/
theorem State.closeRecord_eq (s : State) (retire : Bool) (ws : List WindowNo) :
    s.closeRecord retire ws =
      { seq := s.nextSeq
        members := (s.openGroups ws).map fun p => { window := p.1, epoch := p.2.1 }
        lines := ((s.openGroups ws).map fun p => p.2.2.lines).sum
        bytes := ((s.openGroups ws).map fun p => p.2.2.bytes).sum
        strict := s.anyStrict ws
        retireSet := if retire then ws else []
        state := .queued
        flags :=
          { spanned := false, forced := false, memError := false, cut := false
            writeLost := (s.openGroups ws).any fun p => p.2.2.flags.writeLost
            writeBypassed := (s.openGroups ws).any fun p => p.2.2.flags.writeBypassed }
        intervals := 0 } := by
  unfold closeRecord groupLines groupBytes closeFlags
  simp only [closingGroups_eq, List.map_map, List.any_map]
  rfl

theorem closeWindows_contains (w0 : Word) (w : WindowNo) : (closeWindows w0).contains w = w0.getLsbD w.val := by
  rw [Bool.eq_iff_iff, List.contains_iff_mem, mem_closeWindows]

/-- R53: the record at the tail, its slots QUEUED, and each member window with a new open group or RETIRING. -/
theorem State.closeBatch_eq (s : State) (retire : Bool) (ws : List WindowNo) :
    s.closeBatch retire ws =
      { s with
        nextSeq := if s.nextSeq = 0xFFFF#16 then 1#16 else s.nextSeq + 1
        slots := s.slots.map fun x => if x.status = .opened && ws.contains x.window then { x with status := .queued } else x
        queue := s.queue ++ [s.closeRecord retire ws]
        windows := Vector.ofFn fun w =>
          if ws.contains w then
            closeWindow retire s.nextSeq ({ s with queue := s.queue ++ [s.closeRecord retire ws] }.nextEpoch w) (s.win w)
          else s.win w } := rfl

/-- R51, R54: a CLOSE that passes every check. -/
theorem requestClose_accepted (ch : Channel) {w0 : Word} (hmask : w0.toNat % 2 ^ 16 ≠ 0) (hreserved : w0.toNat / 2 ^ 17 = 0)
    (hwindows : ∀ w : WindowNo, w0.getLsbD w.val = true → (s.win w).isCapturing = true ∧ ∀ d ∈ (s.win w).definition, d.owner = ch)
    (hroom : s.queue.length < 8)
    (hfits : s.anyStrict (closeWindows w0) = true → groupBytes (s.closingGroups (closeWindows w0)) ≤ s.config.budget.toNat * 64) :
    requestClose ch (.long [w0]) s =
      (if s.queue = [] then (s.closeBatch (w0.getLsbD 16) (closeWindows w0)).queueFilled
        else s.closeBatch (w0.getLsbD 16) (closeWindows w0), .data [0#16 ++ s.nextSeq]) := by
  rw [requestClose_of_inRange ch s (not_or.mpr ⟨hmask, not_not.mpr hreserved⟩), if_neg ?owner, if_neg ?state, if_neg ?full,
    if_neg ?oversize]
  case owner =>
    rw [any_ownedByOther_iff]
    rintro ⟨w, hw, d, hd, howner⟩
    exact howner ((hwindows w hw).2 d hd)
  case state =>
    rw [any_not_isCapturing_iff]
    rintro ⟨w, hw, hcap⟩
    rw [(hwindows w hw).1] at hcap
    cases hcap
  case full => exact Nat.not_le.mpr hroom
  case oversize =>
    rw [Bool.and_eq_true, decide_eq_true_eq]
    rintro ⟨hstrict, hover⟩
    exact Nat.not_le.mpr hover (hfits hstrict)

/-- Settles O39: the batch field by field; into an empty queue, the start is the DRAIN_START command's. -/
theorem closeFormsTheBatch : Obligations.CloseFormsTheBatch := by
  unfold Obligations.CloseFormsTheBatch
  intro ch tag w0 s hs hmask hreserved hwindows hroom named retire groups bytes strict hfits r queue t
  have hnamed : closeWindows w0 = allWindows.filter named := closeWindows_eq w0
  have hgroups : s.openGroups (closeWindows w0) = groups := congrArg s.openGroups hnamed
  have hstrict : s.anyStrict (closeWindows w0) = strict := hnamed ▸ s.anyStrict_filter named
  have hr : s.closeRecord retire (closeWindows w0) = r := by
    rw [State.closeRecord_eq, hgroups, hstrict, hnamed]
  have ht : s.closeBatch retire (closeWindows w0) = t := by
    have hentries : (Vector.ofFn fun w : WindowNo =>
        if named w then closeWindow retire s.nextSeq ({ s with queue := queue }.nextEpoch w) (s.win w) else s.win w) = t.windows := by
      refine congrArg Vector.ofFn (funext fun w => ?_)
      cases s.win w <;> rfl
    rw [State.closeBatch_eq, hr]
    simp only [closeWindows_contains]
    rw [hentries]
  have hbytes : groupBytes (s.closingGroups (closeWindows w0)) = bytes := by
    rw [State.closingGroups_eq, hgroups, groupBytes, List.map_map]
    rfl
  have hreply := requestClose_accepted ch hmask hreserved hwindows hroom (by rwa [hstrict, hbytes])
  rw [ht] at hreply
  refine ⟨0#16 ++ s.nextSeq, ?word, fun hqueue => ?_, fun hqueue hidle hport => ⟨t.queueFilled, ?start, ?answer⟩⟩
  case word =>
    rw [toNat_append_eq, BitVec.toNat_ofNat]
    omega
  · rw [if_neg hqueue] at hreply
    exact exec_request_of_reply .close ch tag rfl hs hreply
  case start => exact exec_drainStart_of_not_waitLog (s := t.setTimer clearedTimer) hs.1 (hidle ▸ DrainActivity.noConfusion) hport
  case answer =>
    rw [if_pos hqueue] at hreply
    exact exec_request_of_reply .close ch tag rfl hs hreply

end Sys2Proof.Machine
end

section
/-! What an accepted CANCEL leaves, and what joins the port after it (R18, R43, R66, R67, R98, R115, R123). -/

namespace Sys2Proof.Machine

variable {s : State}

/-! ## The removal, field by field (R66) -/

/-- R18, R42: an entry after its batch has been cancelled. -/
def State.entryCancelled (s : State) (r : BatchRecord) (queue : List BatchRecord) (w : WindowNo) : WindowEntry :=
  match s.win w with
  | .capturing d e n g => .capturing d e (n - s.batchHeld r.members w) g
  | .retiring d e n q =>
    if (r.members.any fun m => m.window = w) && q = r.seq then
      match (queueGroups queue w).getLast? with
      | some p => .retiring d e (n - s.batchHeld r.members w) p.1
      | none => .idle d e
    else .retiring d e (n - s.batchHeld r.members w) q
  | x => x

theorem State.removeBatch_entry (s : State) (r : BatchRecord) (w : WindowNo) :
    (s.removeBatch r).win w = s.entryCancelled r (s.queue.eraseP (·.seq = r.seq)) w := by
  rw [removeBatch_win, removeBatch_queue]
  unfold entryCancelled batchHeld
  generalize List.countP _ _ = k
  generalize (queueGroups _ w).getLast? = last
  cases s.win w with
  | retiring d e n q => cases last <;> rfl
  | _ => rfl

theorem State.removeBatch_eq (s : State) (r : BatchRecord) :
    s.removeBatch r =
      { s with
        queue := s.queue.eraseP (·.seq = r.seq)
        slots := s.slots.filter fun x => !x.inBatch r.members
        log := { records := s.log.records ++ [cancelledRecord r s.drain.frameCount], reserved := s.log.reserved }
        windows := Vector.ofFn (s.entryCancelled r (s.queue.eraseP (·.seq = r.seq))) } := by
  have hwindows : (s.removeBatch r).windows = Vector.ofFn (s.entryCancelled r (s.queue.eraseP (·.seq = r.seq))) := by
    ext1 i hi
    rw [Vector.getElem_ofFn]
    exact s.removeBatch_entry r ⟨i, hi⟩
  have heta : s.removeBatch r = { s.removeBatch r with windows := (s.removeBatch r).windows } := rfl
  rw [heta, hwindows]
  simp [removeBatch, cancelRetire, freeSlots, CompletionLog.post]

/-- R61, R98: a forced stretch ends with the queue. -/
theorem State.queueEmptied_eq (s : State) :
    s.queueEmptied =
      { s with drain := { s.drain with phase := if s.queue = [] ∧ s.drain.phase = .forced then .closed else s.drain.phase } } := by
  by_cases h : s.queue = [] ∧ s.drain.phase = .forced
  · rw [State.queueEmptied_of_emptied s h, if_pos h]
    rfl
  · rw [State.queueEmptied_of_not_emptied s h, if_neg h]

/-! ## What joins the port after the removal (R115) -/

/-- R46, R94, R110: the retry and the release of a held beat, and the start of a new head. -/
def State.afterRemoval (freed : Nat) (newHead : Bool) (s : State) : State :=
  if newHead then (s.afterFreeing freed).startBatches else s.afterFreeing freed

theorem State.afterRemoval_onPort (freed : Nat) (newHead : Bool) (s : State) (p : Option PortTxn) :
    (s.onPort (Mpa.carry p)).afterRemoval freed newHead = (s.afterRemoval freed newHead).onPort (Mpa.carry p) := by
  have hblind : HostBlind (Mpa.carry p) := hostBlind_carry p
  unfold afterRemoval
  rw [State.afterFreeing_onPort (.inl hblind), State.startBatches_onPort (drainBlind_carry p) (.inl hblind), State.ite_onPort]

theorem State.cancelBatch_eq (s : State) (r : BatchRecord) :
    s.cancelBatch r =
      ((s.removeBatch r).queueEmptied.afterRemoval (s.freedCount (Slot.inBatch r.members)) (s.queue.head? = some r)).arbitrate := by
  unfold cancelBatch afterRemoval
  simp only [decide_eq_true_eq]

/-- Settles O41: the removal field by field; what joins the port after it, as commands at a port that is taken meanwhile. -/
theorem cancelRemovesTheBatch : Obligations.CancelRemovesTheBatch := by
  unfold Obligations.CancelRemovesTheBatch
  intro ch tag w0 r s hs hport hseq hreserved hroom hfound hdraining hactivity inBatch queue held t
  have hnumber : r.seq.toNat = w0.toNat := by simpa using List.find?_some hfound
  have hqueue : s.queue.eraseP (·.seq = r.seq) = queue := by
    refine congrArg (List.eraseP · s.queue) (funext fun x => ?_)
    rw [← hnumber]
    simp only [← BitVec.toNat_inj]
  have ht : (s.removeBatch r).queueEmptied = t := by
    rw [State.queueEmptied_eq, State.removeBatch_eq, hqueue]
    rfl
  have hretry : s.slots.any inBatch = true ↔ 0 < s.freedCount (Slot.inBatch r.members) := by
    rw [State.freedCount, List.countP_pos_iff, List.any_eq_true]
    rfl
  have hcommands := execAll_after_completion (s := t.portTaken) (wipeNext := !decide (s.queue.head? = some r)) hretry hs.1 rfl hactivity
  have hreply : requestCancel (.long [w0]) s = (s.cancelBatch r, .ack) := by
    rw [requestCancel_of_found s (not_or.mpr ⟨hseq, not_not.mpr hreserved⟩) (Nat.not_le.mpr hroom) hfound, hdraining,
      if_neg Bool.false_ne_true]
  refine ⟨t.portTaken.afterRemoval (s.freedCount (Slot.inBatch r.members)) (s.queue.head? = some r), ?commands, ?answer⟩
  case commands =>
    by_cases hhead : s.queue.head? = some r
    · simp only [hhead, decide_true, Bool.not_true, Bool.false_eq_true, if_false, if_true] at hcommands ⊢
      exact hcommands
    · simp only [hhead, decide_false, Bool.not_false, if_true, if_false] at hcommands ⊢
      exact hcommands
  case answer =>
    have hgranted := State.arbitrate_of_portTaken
      (State.afterRemoval_onPort (s.freedCount (Slot.inBatch r.members)) (s.queue.head? = some r)) t
    rw [State.cancelBatch_eq, ht, hgranted] at hreply
    exact exec_request_of_reply .cancel ch tag rfl hs hreply

end Sys2Proof.Machine
end
